-- ==== Sys2Proof/Word.lean ====
section
/-! DEFINITION. The words of the PZ620's links and converters: bytes on the two serial links and in the sample
memory, raw conversions of the analog inputs, and the 16-bit samples of the sample memory. Every other quantity of
the manual is a whole number with a range, and is a `Nat` or an `Int` in the model. -/

namespace Sys2Proof

/-- One character's eight data bits on a link, or one byte of the sample memory. -/
abbrev Byte := BitVec 8

/-- A raw conversion 0..4095 of an analog input (R24, R25). -/
abbrev Raw := BitVec 12

/-- One sound sample, 16-bit signed (R100). -/
abbrev Sample := BitVec 16

end Sys2Proof
end

