-- ==== Sys2Proof/Config.lean ====
section
/-! DEFINITION. What the manual leaves to the implementation: the free choice among orders that the manual leaves
open, and the constants that are set at manufacture. -/

namespace Sys2Proof.Config

/-- A FREE VALUE: which of the orders that the manual leaves open ("carry no order among themselves", R19, R34, R71,
R142, R175; expiries of one timer in one event) the part takes at the n-th such choice. No body: nothing can be proved
of its value (assumption 1). -/
opaque noticeChoice : Nat → Nat

/-- Identity settings 480, 481, 482: maker code, part code and issue, set at manufacture. DESIGN CHOICE: 0, 620, 0
(assumption 2). -/
def identity : List Nat := [0, 620, 0]

/-- Current-sense gain Gi, setting 483, set at manufacture. DESIGN CHOICE: 1024, which spreads the raw range 0..4095
over the current range 0..1023 of R25 (assumption 2). -/
def currentGain : Nat := 1024

/-- BEMF offset, setting 484, set at manufacture. DESIGN CHOICE: 0 (assumption 2). -/
def bemfOffset : Nat := 0

/-- Thermistor table, settings 485..500, as pairs (reading, temperature in °C), set at manufacture. DESIGN CHOICE: the
table of chapter 5's worked figures (assumption 2). -/
def thermistor : List (Nat × Nat) :=
  [(200, 0), (600, 40), (1200, 90), (1800, 140), (2400, 190), (2900, 240), (3300, 290), (3600, 340)]

end Sys2Proof.Config
end

