-- ==== Sys2Proof/Syntax.lean ====
section
/-! DEFINITION. The commands of the PZ620: one constructor for each row of spec/opcode_table.json, with its operands.
The operands are what the event brings in from outside: a character of a link, a raw conversion, the bytes of a
sample-memory read, the fields of a frame, the number of the light output concerned. -/

namespace Sys2Proof

/-- A direction: of travel, of a request, or of a polarity at the motor terminals. -/
inductive Direction where
  | fwd | rev
  deriving DecidableEq, Repr

/-- The four actions of a FUNC frame (R66), in the order of their codes 0..3 (R149). -/
inductive FuncAction where
  | set | clear | press | release
  deriving DecidableEq, Repr

/-- The place of the locomotive's own sense in its consist. -/
inductive Orientation where
  | normal | reversed
  deriving DecidableEq, Repr

/-- The role of a consist member. -/
inductive ConsistRole where
  | lead | trail
  deriving DecidableEq, Repr

/-- Who asks, for the kinds accepted on both links (R149): a throttle with its sender number and the Address of its
frame, or the setup tool on the service link. -/
inductive Source where
  | throttle (sender address : Nat)
  | setupTool
  deriving DecidableEq, Repr

/-- The commands, in the order of spec/opcode_table.json. -/
inductive Instr where
  | step
  | holdOffExpiry
  | telemetryExpiry
  | signalLossExpiry
  | watcherAgeOut
  | controlCycle
  | retryExpiry
  | quietCountExpiry
  | bridgingLimitExpiry
  | bemfReading (which : Fin 3) (polarity : Direction) (raw : Raw)
  | vinReading (raw : Raw)
  | vsReading (raw : Raw)
  | thermistorReading (raw : Raw)
  | gapEnd
  | currentReading (which : Fin 2) (raw : Raw)
  | laborWindowClose
  | sensorFallback
  | wheelPulse (time : Nat)
  | effectsTick
  | flickerUpdate (output : Fin 8)
  | fadeOutEnd (output : Fin 8)
  | oneShotDone (output : Fin 8)
  | puffExpiry
  | burstExpiry
  | purgeExpiry
  | outputSample
  | headerReadDone (bytes : Vector Byte 64)
  | entryReadDone (bytes : Vector Byte 16)
  | refillDone (bytes : Vector Byte 32)
  | saveWriteDone
  | powerLoss
  | powerUp (sample : Raw)
  | markClearDone (sample : Raw)
  | persistWriteDone
  | pendingRestartWriteDone (sample : Raw)
  | rewriteWriteDone
  | radioFrameComplete (check : Byte)
  | serviceFrameComplete (check : Byte)
  | lineBreak
  | decoderFree
  | claim (sender address : Nat) (steal : Bool)
  | release (sender address : Nat)
  | drive (sender address stepNo : Nat) (direction : Direction)
  | func (sender address : Nat) (function : Fin 32) (action : FuncAction)
  | estop (sender address : Nat)
  | query (source : Source)
  | consistJoin (sender address consist : Nat) (orientation : Orientation) (role : ConsistRole)
  | consistLeave (sender address : Nat)
  | set (source : Source) (index value : Nat)
  | get (source : Source) (index : Nat)
  | haltAll
  | resumeAll
  | credit (n : Nat)
  | restart
  | defaults
  | identify
  | replySent
  | serviceReplySent
  | radioCharacter (data : Byte) (marker stopOk : Bool)
  | serviceCharacter (data : Byte) (marker stopOk : Bool)
  | passageToMarking
  deriving DecidableEq, Repr

end Sys2Proof
end

