-- ==== Sys2Proof/WellFormed.lean ====
section
/-! DEFINITION. Which commands are well formed: the ranges of R149 for the fields of a frame, and the two bytes that a
frame gives an address, an index or a value. The operands that are no numbers, and the raw conversions, are well formed
by their types. -/

namespace Sys2Proof

/-- A throttle's sender number (R143, R149). -/
def senderOk (sender : Nat) : Bool := 1 ≤ sender && sender ≤ 59

/-- A number that the two bytes of a frame field can hold (R143). -/
def wordOk (n : Nat) : Bool := n ≤ 65535

/-- A number that one byte of a frame can hold (R143). -/
def byteOk (n : Nat) : Bool := n ≤ 255

/-- The fields that every throttle frame has: a throttle's sender number and an address. -/
def throttleOk (sender address : Nat) : Bool := senderOk sender && wordOk address

/-- The source of a SET, GET or QUERY (R149). -/
def Source.wellFormed : Source → Bool
  | .throttle sender address => throttleOk sender address
  | .setupTool => true

/-- The command's operands lie within the ranges of R149. -/
def Instr.wellFormed : Instr → Bool
  | .claim sender address _ => throttleOk sender address
  | .release sender address => throttleOk sender address
  | .drive sender address stepNo _ => throttleOk sender address && byteOk stepNo
  | .func sender address _ _ => throttleOk sender address
  | .estop sender address => throttleOk sender address
  | .query source => source.wellFormed
  | .consistJoin sender address consist _ _ => throttleOk sender address && (1 ≤ consist && consist ≤ 9999)
  | .consistLeave sender address => throttleOk sender address
  | .set source index value => source.wellFormed && (wordOk index && wordOk value)
  | .get source index => source.wellFormed && wordOk index
  | .credit n => byteOk n
  | .step => true
  | .holdOffExpiry => true
  | .telemetryExpiry => true
  | .signalLossExpiry => true
  | .watcherAgeOut => true
  | .controlCycle => true
  | .retryExpiry => true
  | .quietCountExpiry => true
  | .bridgingLimitExpiry => true
  | .bemfReading _ _ _ => true
  | .vinReading _ => true
  | .vsReading _ => true
  | .thermistorReading _ => true
  | .gapEnd => true
  | .currentReading _ _ => true
  | .laborWindowClose => true
  | .sensorFallback => true
  | .wheelPulse _ => true
  | .effectsTick => true
  | .flickerUpdate _ => true
  | .fadeOutEnd _ => true
  | .oneShotDone _ => true
  | .puffExpiry => true
  | .burstExpiry => true
  | .purgeExpiry => true
  | .outputSample => true
  | .headerReadDone _ => true
  | .entryReadDone _ => true
  | .refillDone _ => true
  | .saveWriteDone => true
  | .powerLoss => true
  | .powerUp _ => true
  | .markClearDone _ => true
  | .persistWriteDone => true
  | .pendingRestartWriteDone _ => true
  | .rewriteWriteDone => true
  | .radioFrameComplete _ => true
  | .serviceFrameComplete _ => true
  | .lineBreak => true
  | .decoderFree => true
  | .haltAll => true
  | .resumeAll => true
  | .restart => true
  | .defaults => true
  | .identify => true
  | .replySent => true
  | .serviceReplySent => true
  | .radioCharacter _ _ _ => true
  | .serviceCharacter _ _ _ => true
  | .passageToMarking => true

end Sys2Proof
end

