-- ==== Sys2Proof/Decode.lean ====
section
/-! DEFINITION. The rows of spec/opcode_table.json give no bits ("fields" is empty in every row), so no word spells a
command. The frames of the two links are read in Sys2Proof/Machine/Operands.lean, from the frame layout of R143 and the
table of R149. -/

namespace Sys2Proof

/-- The command that a word of `nbits` bits spells by the table's bits: none, since the table gives no row any bit
(assumption 3). -/
def decodeTableWord (_nbits _w : Nat) : Option Instr := none

end Sys2Proof
end

