-- ==== Sys2Proof/Machine/SettingTable.lean ====
section
/-! DEFINITION. The plain arithmetic of the manual's formulas, the index table of chapter 10 (ranges, defaults and
classes), and the sparse store that holds one value for each index (working copy and nonvolatile slots). -/

namespace Sys2Proof.Machine

/-- clamp(x, a, b) of the manual's conventions. -/
def clampNat (x a b : Nat) : Nat := if x < a then a else if b < x then b else x

/-- clamp(x, a, b) of the manual's conventions, for whole numbers of either sign. -/
def clampInt (x a b : Int) : Int := if x < a then a else if b < x then b else x

/-- floor of a quotient by a positive divisor, toward minus infinity. -/
def floorDiv (x : Int) (d : Nat) : Int := x.fdiv d

/-- trunc of a quotient, toward zero. -/
def truncDiv (x : Int) (d : Int) : Int := x.tdiv d

/-- The class of a setting (section 10.1). -/
inductive SettingClass where
  | run | motion | service | fixed
  deriving DecidableEq, Repr

/-- One row of the index table: range, default and class. -/
structure SettingSpec where
  lo : Nat
  hi : Nat
  dflt : Nat
  cls : SettingClass
  deriving DecidableEq, Repr

/-- Settings 1 to 57. -/
def generalSpec (i : Nat) : Option SettingSpec :=
  if i = 1 then some ⟨1, 9999, 3, .motion⟩
  else if i = 2 then some ⟨0, 9999, 0, .motion⟩
  else if i = 3 then some ⟨0, 3, 0, .motion⟩
  else if i = 5 then some ⟨0, 255, 40, .run⟩
  else if i = 6 then some ⟨0, 255, 40, .run⟩
  else if i = 7 then some ⟨0, 255, 160, .run⟩
  else if i = 8 then some ⟨0, 255, 128, .motion⟩
  else if i = 9 then some ⟨0, 255, 128, .motion⟩
  else if i = 10 then some ⟨0, 255, 0, .service⟩
  else if i = 11 then some ⟨0, 255, 128, .motion⟩
  else if i = 12 then some ⟨0, 255, 64, .motion⟩
  else if i = 13 then some ⟨0, 255, 32, .motion⟩
  else if i = 14 then some ⟨0, 255, 80, .motion⟩
  else if i = 15 then some ⟨10, 800, 300, .service⟩
  else if i = 16 then some ⟨128, 65535, 600, .motion⟩
  else if i = 17 then some ⟨2, 8, 4, .motion⟩
  else if i = 18 then some ⟨0, 1, 0, .motion⟩
  else if i = 19 then some ⟨0, 1, 0, .motion⟩
  else if i = 20 then some ⟨0, 255, 160, .service⟩
  else if i = 21 then some ⟨0, 255, 40, .service⟩
  else if 24 ≤ i ∧ i ≤ 31 then some ⟨0, 100, 5, .service⟩
  else if i = 32 then some ⟨150, 300, 220, .service⟩
  else if i = 33 then some ⟨20, 80, 40, .service⟩
  else if i = 34 then some ⟨0, 255, 16, .service⟩
  else if i = 35 then some ⟨10, 300, 150, .service⟩
  else if i = 36 then some ⟨0, 255, 160, .service⟩
  else if i = 37 then some ⟨0, 255, 95, .service⟩
  else if i = 38 then some ⟨1, 25, 8, .service⟩
  else if i = 39 then some ⟨0, 255, 40, .service⟩
  else if i = 40 then some ⟨0, 255, 120, .service⟩
  else if i = 41 then some ⟨0, 2550, 500, .service⟩
  else if i = 42 then some ⟨0, 255, 200, .run⟩
  else if i = 43 then some ⟨0, 255, 96, .run⟩
  else if i = 44 then some ⟨0, 255, 120, .run⟩
  else if i = 45 then some ⟨0, 255, 255, .run⟩
  else if i = 46 then some ⟨1, 8, 1, .service⟩
  else if i = 48 then some ⟨0, 1023, 500, .service⟩
  else if i = 49 then some ⟨0, 5000, 2000, .service⟩
  else if i = 50 then some ⟨50, 250, 110, .service⟩
  else if i = 51 then some ⟨50, 250, 80, .service⟩
  else if i = 52 then some ⟨50, 250, 65, .service⟩
  else if i = 53 then some ⟨0, 255, 20, .run⟩
  else if i = 54 then some ⟨0, 255, 30, .service⟩
  else if i = 55 then some ⟨0, 2, 0, .service⟩
  else if i = 56 then some ⟨0, 1, 0, .service⟩
  else if i = 57 then some ⟨0, 1, 0, .service⟩
  else none

/-- The six settings of a Cue Matcher, by offset (R60). -/
def matcherSpec (offset : Nat) : SettingSpec :=
  if offset = 0 then ⟨0, 31, 0, .service⟩
  else if offset = 1 then ⟨0, 511, 0, .service⟩
  else if offset = 2 then ⟨0, 255, 0, .service⟩
  else if offset = 3 then ⟨0, 1023, 0, .service⟩
  else if offset = 4 then ⟨0, 1023, 0, .service⟩
  else ⟨0, 256, 0, .service⟩

/-- The six settings of a profile, by offset (R75). -/
def profileSpec (offset : Nat) : SettingSpec :=
  if offset = 0 then ⟨0, 5, 0, .service⟩
  else if offset = 1 then ⟨0, 255, 255, .service⟩
  else if offset = 2 then ⟨0, 255, 64, .service⟩
  else if offset = 3 then ⟨0, 500, 50, .service⟩
  else if offset = 4 then ⟨0, 500, 50, .service⟩
  else ⟨0, 511, 0, .service⟩

/-- The default of a map setting: entry 0 is function 0, conditions 1, target 1; entry 1 is function 0, conditions 2,
target 2; every other field is 0. -/
def mapDefault (i : Nat) : Nat :=
  if i = 257 ∨ i = 258 then 1 else if i = 261 ∨ i = 262 then 2 else 0

/-- The four settings of a Function Map entry, by offset (R67). -/
def mapSpec (i : Nat) : SettingSpec :=
  let offset := (i - 256) % 4
  let hi := if offset = 0 then 32 else if offset = 1 then 26 else if offset = 2 then 16 else 255
  ⟨0, hi, mapDefault i, .service⟩

/-- The FIXED settings 480 to 504 (R184, R185); the defaults of 480 to 500 are the values set at manufacture. -/
def fixedSpec (i : Nat) : Option SettingSpec :=
  if 480 ≤ i ∧ i ≤ 482 then some ⟨0, 65535, Config.identity.getD (i - 480) 0, .fixed⟩
  else if i = 483 then some ⟨0, 65535, Config.currentGain, .fixed⟩
  else if i = 484 then some ⟨0, 255, Config.bemfOffset, .fixed⟩
  else if 485 ≤ i ∧ i ≤ 500 then
    let point := Config.thermistor.getD ((i - 485) / 2) (0, 0)
    if (i - 485) % 2 = 0 then some ⟨0, 4095, point.1, .fixed⟩ else some ⟨0, 440, point.2 + 40, .fixed⟩
  else if i = 501 ∨ i = 502 then some ⟨0, 65535, 0, .fixed⟩
  else if i = 503 then some ⟨0, 3, 0, .fixed⟩
  else if i = 504 then some ⟨0, 65535, 0, .fixed⟩
  else none

/-- The index table of section 10.1: what it gives for an index, or none for an unassigned index. -/
def settingSpec (i : Nat) : Option SettingSpec :=
  if i ≤ 57 then generalSpec i
  else if 64 ≤ i ∧ i ≤ 78 then some ⟨0, 1023, 1023 * (i - 64) / 14, .motion⟩
  else if 96 ≤ i ∧ i ≤ 127 then some ⟨0, 3, 0, .service⟩
  else if 128 ≤ i ∧ i ≤ 175 then some (matcherSpec ((i - 128) % 6))
  else if 176 ≤ i ∧ i ≤ 223 then some (profileSpec ((i - 176) % 6))
  else if 256 ≤ i ∧ i ≤ 351 then some (mapSpec i)
  else fixedSpec i

/-- The default value of an index; 0 for an unassigned index, which no rule reads. -/
def settingDefault (i : Nat) : Nat :=
  match settingSpec i with
  | some p => p.dflt
  | none => 0

/-- A written value brought into its setting's range (R178). -/
def clampSetting (i v : Nat) : Nat :=
  match settingSpec i with
  | none => 0
  | some p =>
    if i = 17 then (if v < 4 then 2 else if v < 6 then 4 else if v < 8 then 6 else 8)
    else clampNat v p.lo p.hi

/-- The value lies in the range that the index table gives the index. -/
def settingInRange (i v : Nat) : Bool :=
  match settingSpec i with
  | none => v == 0
  | some p => p.lo ≤ v && v ≤ p.hi && (i != 17 || v % 2 == 0)

/-- The index is assigned and not FIXED: it has a nonvolatile slot that the rewrite sets (R183). -/
def hasSlot (i : Nat) : Bool :=
  match settingSpec i with
  | some p => p.cls != .fixed
  | none => false

/-- The first index after `i` that has a slot, for the rewrite's rising order (R183). -/
def nextSlot (i : Nat) : Option Nat :=
  (List.range' (i + 1) (512 - (i + 1))).find? hasSlot

/-- One value for each index. Held as the list of the indices whose value differs from the default, in rising order, so
that stores with equal contents are equal data. -/
abbrev Store := List (Nat × Nat)

/-- The value an index holds. -/
def Store.read (w : Store) (i : Nat) : Nat :=
  match w.lookup i with
  | some v => v
  | none => settingDefault i

/-- The store after index `i` takes the value `v`, still in canonical form. -/
def Store.write : Store → Nat → Nat → Store
  | [], i, v => if v = settingDefault i then [] else [(i, v)]
  | (j, u) :: w, i, v =>
    if i < j then (if v = settingDefault i then (j, u) :: w else (i, v) :: (j, u) :: w)
    else if i = j then (if v = settingDefault i then w else (i, v) :: w)
    else (j, u) :: Store.write w i v

/-- The canonical form: indices strictly rising, and no entry equal to its index's default. -/
def Store.wf : Store → Bool
  | [] => true
  | (i, v) :: w => v != settingDefault i && w.all (fun e => i < e.1) && Store.wf w

/-- The working copy as a restart loads it from the nonvolatile slots, each value clamped (R178, R185). -/
def Store.load : Store → Store
  | [] => []
  | (i, v) :: w =>
    let v' := clampSetting i v
    if v' = settingDefault i then Store.load w else (i, v') :: Store.load w

end Sys2Proof.Machine
end

