-- ==== Sys2Proof/Machine/State.lean ====
section
/-! DEFINITION. The state of the PZ620: one structure for each block of the manual's block overview, the nonvolatile
store, the queue of waiting commands, and the state right after reset. -/

namespace Sys2Proof.Machine

/-! ### Speed Law Unit (section 1.1) -/

/-- The state of the run permit (section 1.3). -/
inductive PermitState where
  | notRequired | withheld | holding | granted
  deriving DecidableEq, Repr

/-- What the Speed Law Unit holds (section 1.1). -/
structure Slu where
  tEff : Nat
  r : Nat
  f : Nat
  travel : Direction
  permit : PermitState
  /-- Hold-off timer: steps elapsed, or none while it is idle. -/
  holdOff : Option Nat
  deriving DecidableEq, Repr

/-! ### Motor Loop and Measurement Scanner (sections 2.1, 2.3) -/

/-- The four bridge states (R31). -/
inductive BridgeState where
  | drive | coast | brake | tripped
  deriving DecidableEq, Repr

/-- What the Motor Loop holds (section 2.3), and whether the measurement gap of R22 is running. -/
structure Ml where
  m : Nat
  i16 : Int
  d : Nat
  dcap : Nat
  bridge : BridgeState
  tripCounter : Nat
  quiet : Option Nat
  retry : Option Nat
  fault : Bool
  /-- The measurement gap runs: every switch of the bridge is off (R22). -/
  inGap : Bool
  deriving DecidableEq, Repr

/-- The Scan Results record (R23). -/
structure Scan where
  bemf1 : Nat
  bemf2 : Nat
  bemf3 : Nat
  median : Nat
  vin : Nat
  vs : Nat
  thermistor : Nat
  currentA : Nat
  currentB : Nat
  deriving DecidableEq, Repr

/-! ### Motion Tracker (section 3.1) -/

/-- Labor state with hysteresis (R59). -/
inductive LaborState where
  | light | heavy
  deriving DecidableEq, Repr

/-- Where chuffs come from now. -/
inductive ChuffSource where
  | synth | sensor
  deriving DecidableEq, Repr

/-- What the Motion Tracker holds (section 3.1), and whether a pulse has been accepted since the last gap end (R54). -/
structure Mt where
  pa : Nat
  chuff : Nat
  revolution : Nat
  odometer : Nat
  windowSum : Nat
  windowCount : Nat
  l : Nat
  labor : LaborState
  source : ChuffSource
  fallback : Bool
  /-- Time of the last accepted pulse in microseconds, or none. -/
  lastPulse : Option Nat
  silent : Nat
  /-- A pulse has been accepted since the previous gap end, whichever chuff source was in effect (R54; assumption 46). -/
  pulseSeen : Bool
  deriving DecidableEq, Repr

/-! ### Function Mapper and Effect Generators (chapter 4) -/

/-- The four states of a light generator (section 4.3). -/
inductive GenState where
  | dark | running | done | fadingOut
  deriving DecidableEq, Repr

/-- One light generator's record (chapter 4). -/
structure Gen where
  driving : Option (Fin 24)
  st : GenState
  q : Nat
  run : Nat
  countdown : Nat
  fade : Nat
  value : Nat
  brightness : Nat
  deriving DecidableEq, Repr

/-- A DARK generator: no driving entry, every counter and value 0 (R85). -/
def Gen.off : Gen := ⟨none, .dark, 0, 0, 0, 0, 0, 0⟩

/-- What the Function Mapper and Effect Generators hold (chapter 4). -/
structure Fe where
  active : Vector Bool 24
  shunt : Bool
  brake : Bool
  momentumOff : Bool
  dimmer : Bool
  mute : Bool
  smokeEnable : Bool
  permitRequired : Bool
  permitGranted : Bool
  gens : Vector Gen 8
  noise : BitVec 16
  lightEstimate : Nat
  deriving DecidableEq, Repr

/-! ### Smoke Controller (chapter 5) -/

/-- The five smoke states (section 5.1). -/
inductive SmokeState where
  | off | preheat | ready | shed | dry
  deriving DecidableEq, Repr

/-- What the Smoke Controller holds (chapter 5). The two limits are the Puff time and the Purge time under which the
running puff and purge were begun (R97). -/
structure Sc where
  smoke : SmokeState
  temp : Option Int
  thermFault : Bool
  demand : Nat
  cap : Nat
  duty : Nat
  fan : Nat
  puff : Option Nat
  puffLimit : Nat
  burst : Option Nat
  purge : Option Nat
  purgeLimit : Nat
  deriving DecidableEq, Repr

/-! ### Sound Engine (chapter 6) -/

/-- Result of the directory check (R101). -/
inductive DirState where
  | checking | valid | noProject
  deriving DecidableEq, Repr

/-- The system cue kinds, in the order of the cue table's records, and DIRECT (R104). -/
inductive CueKind where
  | chuffLight | chuffHeavy | startMoving | stopped | reversed | brakeOn | brakeOff | laborUp | laborDown
  | engineStart | engineStop | ambient | estop | claimed | lowPower | smokeDry | direct
  deriving DecidableEq, Repr

/-- Who raised a cue (R104). -/
inductive CueOrigin where
  | system
  | map (entry : Fin 24)
  | matcher (m : Fin 8)
  deriving DecidableEq, Repr

/-- A cue record (R104). While the directory state is CHECKING, the sound number and the priority of a queued cue are
left open: a system cue then holds its variant offset as its sound number and 0 as its priority (R109). -/
structure Cue where
  kind : CueKind
  sound : Nat
  priority : Nat
  origin : CueOrigin
  chuff : Option Nat
  deriving DecidableEq, Repr

/-- The states of a voice (section 6.4). -/
inductive VoiceState where
  | free | opening | playing | looping | releasing
  deriving DecidableEq, Repr

/-- How a voice plays (R112). -/
inductive PlayClass where
  | oneShot | looped | chuff | ambient
  deriving DecidableEq, Repr

/-- A voice's outstanding request to the port. -/
inductive Refill where
  | none | pending | inTransfer
  deriving DecidableEq, Repr

/-- A voice record (chapter 6). The position counts in 1/256 of a sample. -/
structure Voice where
  st : VoiceState
  cue : Option Cue
  cancel : Bool
  order : Nat
  start : Nat
  length : Nat
  loopStart : Nat
  loopEnd : Nat
  /-- The loop is in force (R112, R114). -/
  loopOn : Bool
  baseStep : Nat
  baseVolume : Nat
  cls : PlayClass
  volume : Nat
  position : Nat
  /-- Samples in play order, the first one at the integer position. -/
  buffer : List Sample
  /-- Samples that the position has passed before they were fetched (R117, passed samples). -/
  skip : Nat
  fetch : Nat
  refill : Refill
  deriving DecidableEq, Repr

/-- A FREE voice (R125). -/
def Voice.freed : Voice :=
  ⟨.free, none, false, 0, 0, 0, 0, 0, false, 0, 0, .oneShot, 0, 0, [], 0, 0, .none⟩

/-- The sample-memory port: idle, or busy with one transfer (R100, R115). The header read is at address 0, an entry read at
the entry's address. A refill in transfer serves a voice with the samples at the byte addresses listed, in play order; it
keeps the fetch point at which it was granted, and how many of its samples come before its first wrap (R116, R117). -/
inductive Port where
  | idle
  | header
  | entry (address : Nat)
  | refill (voice : Fin 8) (addresses : List Nat) (start preWrap : Nat)
  deriving DecidableEq, Repr

/-- What the Sound Engine holds (chapter 6). -/
structure Se where
  dir : DirState
  soundCount : Nat
  /-- The system cue table: sound number and priority of each system kind. -/
  cueTable : Vector (Nat × Nat) 16
  queue : List Cue
  /-- The allocation: idle, or in flight with one voice, which holds the cue. -/
  alloc : Option (Fin 8)
  /-- The address of the entry read that waits for the port, or none. -/
  entryWaiting : Option Nat
  port : Port
  lastServed : Fin 8
  mute : Bool
  output : Int
  pwm : Nat
  /-- The count from which opening orders are taken. -/
  openCount : Nat
  voices : Vector Voice 8
  deriving DecidableEq, Repr

/-! ### Power Supervisor (chapter 7) -/

/-- The five power states. -/
inductive PowerState where
  | normal | bridging | dimmed | coasting | down
  deriving DecidableEq, Repr

/-- Progress of the DOWN save sequence (R135). -/
inductive SaveStage where
  | idle | persist | odometer | resume | mark | ended
  deriving DecidableEq, Repr

/-- The restart kinds (section 7.6). -/
inductive RestartKind where
  | cold | warm | commanded | defaults
  deriving DecidableEq, Repr

/-- What the Power Supervisor holds (chapter 7), and whether it has ordered the outputs off (R137). -/
structure Ps where
  power : PowerState
  lost : Nat
  back : Nat
  /-- Bridging timer in ms, or none while it is idle. -/
  bridging : Option Nat
  allowance : Nat
  stage : SaveStage
  pendingRestart : Option RestartKind
  restartKind : RestartKind
  outputsOff : Bool
  deriving DecidableEq, Repr

/-! ### Links and Frame Decoder (chapter 8) -/

/-- A received frame whose check was good, or a frame on its way out: Kind, Sender, Address and payload (R143). -/
structure Frame where
  kind : Nat
  sender : Nat
  address : Nat
  payload : List Nat
  deriving DecidableEq, Repr

/-- Receiver states (section 8.2). -/
inductive RxState where
  | hunting | assembling | ignoring
  deriving DecidableEq, Repr

/-- Refusal reasons of a REFUSED reply, in the order of their codes 1..9 (R150). -/
inductive Reason where
  | notDriver | driverHeld | inConsist | moving | badSetting | readOnly | classLocked | busy | notInConsist
  deriving DecidableEq, Repr

/-- A reply without its destination (R150). A STATUS holds no content until its sending. -/
inductive ReplyBody where
  | ack (kind : Nat)
  | ackSet (index value : Nat) (deferred : Bool)
  | ackIdentify (identity : Nat × Nat × Nat) (loco project restart : Nat)
  | refused (kind : Nat) (reason : Reason)
  | value (index value : Nat)
  | status
  deriving DecidableEq, Repr

/-- An entry of the Reply Queue (R153). -/
structure Reply where
  dest : Nat
  body : ReplyBody
  deriving DecidableEq, Repr

/-- What the Radio Link Port holds (chapter 8). -/
structure Radio where
  rx : RxState
  partialFrame : List Byte
  /-- Spacing time: 22 once a break has been found in the present spell, 0 otherwise. -/
  spacing : Nat
  frames : List Frame
  overrun : Bool
  replies : List Reply
  credits : Nat
  /-- Transmitter: none while IDLE, the reply on the line while SENDING. -/
  sending : Option Frame
  telemetry : Option Nat
  deriving DecidableEq, Repr

/-- Link state of the Service Link Port (section 8.5). -/
inductive LinkState where
  | idle | waiting | inFlight | replying
  deriving DecidableEq, Repr

/-- What the Service Link Port holds (section 8.5). -/
structure Service where
  rx : RxState
  partialFrame : List Byte
  link : LinkState
  slot : Option Frame
  reply : Option Frame
  busyOwed : Option Nat
  deriving DecidableEq, Repr

/-- The two links. -/
inductive Link where
  | radio | service
  deriving DecidableEq, Repr

/-- What the Frame Decoder holds (R148). -/
structure Decoder where
  occupied : Bool
  lastServed : Link
  deriving DecidableEq, Repr

/-! ### Control Table (chapter 9) -/

/-- The address at which the Driver holds control. -/
inductive Scope where
  | loco | consist
  deriving DecidableEq, Repr

/-- Role of an entry; scope and LOST mark are the DRIVER's alone. -/
inductive Role where
  | driver (scope : Scope) (lost : Bool)
  | watcher
  deriving DecidableEq, Repr

/-- An entry record of the Control Table. -/
structure Entry where
  id : Nat
  role : Role
  age : Nat
  deriving DecidableEq, Repr

/-- The Stop latch: which causes it holds (R170). -/
structure StopLatch where
  throttleEstop : Bool
  baseHalt : Bool
  linkBreak : Bool
  signalLoss : Bool
  deriving DecidableEq, Repr

/-- The empty Stop latch. -/
def StopLatch.empty : StopLatch := ⟨false, false, false, false⟩

/-- What the Control Table holds (chapter 9). The entries stand in the order of hearing, least recent first. -/
structure Ct where
  entries : List Entry
  target : Nat
  requested : Direction
  latch : StopLatch
  functions : Vector Bool 32
  deriving DecidableEq, Repr

/-! ### Settings Store and nonvolatile store (chapter 10) -/

/-- An entry of the Persist Queue (R182). -/
structure PersistEntry where
  index : Nat
  inTransfer : Bool
  again : Bool
  deriving DecidableEq, Repr

/-- What the Settings Store holds (chapter 10). -/
structure Ss where
  working : Store
  deferred : List (Nat × Nat)
  persist : List PersistEntry
  writeStop : Bool
  /-- The rewrite: idle, or running with the next index to rewrite. -/
  rewrite : Option Nat
  deriving DecidableEq, Repr

/-- The contents of the Resume Record (R184). -/
structure ResumeRecord where
  target : Nat
  requested : Direction
  functions : Vector Bool 32
  driver : Option (Nat × Scope)
  consist : Nat
  orientation : Orientation
  role : ConsistRole
  deriving DecidableEq, Repr

/-- What a nonvolatile write writes. -/
inductive NvJob where
  | slot (index value : Nat)
  | odometer (value : Nat)
  | record (contents : ResumeRecord)
  | mark
  | clearMark
  deriving DecidableEq, Repr

/-- For whom a nonvolatile write was begun: the background persistence (R182), the default settings rewrite (R183), a
pending restart (R140, R141), the DOWN save (R135), or the reading of the Resume Record (R138). -/
inductive NvPurpose where
  | background | rewrite | pending | save | restart
  deriving DecidableEq, Repr

/-- The nonvolatile store and the write in transfer, if there is one. The Calibration Record stands in the slots 483 to
500, which no write touches (R184). -/
structure Nv where
  slots : Store
  odometer : Nat
  record : ResumeRecord
  markPresent : Bool
  write : Option (NvPurpose × NvJob)
  deriving DecidableEq, Repr

/-! ### The whole part -/

/-- Whether the part runs (R127, R138): off below 5.0 V, starting while a power-up clears the Resume Record's mark,
running from the restart on. -/
inductive Phase where
  | off | starting | running
  deriving DecidableEq, Repr

/-- The state of the part, and the queue of the commands that wait, first in first out. `orderCount` is the model's own
field: how many free order choices have been taken (assumption 1). -/
structure State where
  phase : Phase
  slu : Slu
  ml : Ml
  scan : Scan
  mt : Mt
  fe : Fe
  sc : Sc
  se : Se
  ps : Ps
  radio : Radio
  service : Service
  decoder : Decoder
  ct : Ct
  ss : Ss
  nv : Nv
  orderCount : Nat
  pending : List Instr
  deriving DecidableEq, Repr

/-- No command of the part ends in a fault: the manual gives every event its effect. -/
inductive Fault where
  deriving DecidableEq, Repr

/-- Why a command has no outcome. -/
inductive Refusal where
  /-- The dispatch raises it for a command that has no meaning yet; safe, since the machine stops. -/
  | notModelled (mnemonic : String)
  deriving DecidableEq, Repr

/-- The Resume Record of a new part: nothing recorded, and no validity mark (R185). -/
def ResumeRecord.blank : ResumeRecord :=
  ⟨0, .fwd, Vector.replicate 32 false, none, 0, .normal, .lead⟩

/-- The state right after reset: a new part (R185: every slot at its default, Odometer 0, no validity mark) right after
its first power-up, a COLD restart (R21, R46, R64, R85, R99, R125, R139, R158, R176, R185) that found the track input
at 7.0 V or more (assumption 4). The AMBIENT cue of R108 waits in the Cue Queue, the header read is in the port. -/
def State.reset : State where
  phase := .running
  slu := ⟨0, 0, 0, .fwd, .notRequired, none⟩
  ml := ⟨0, 0, 0, 1023, .coast, 0, none, none, false, true⟩
  scan := ⟨0, 0, 0, 0, 0, 0, 0, 0, 0⟩
  mt := ⟨0, 0, 0, 0, 0, 0, 0, .light, .synth, false, none, 0, false⟩
  fe := ⟨Vector.replicate 24 false, false, false, false, false, false, false, false, false,
    Vector.replicate 8 Gen.off, 0xACE1#16, 0⟩
  sc := ⟨.off, none, false, 0, 0, 0, 0, none, 0, none, none, 0⟩
  se := ⟨.checking, 0, Vector.replicate 16 (0, 0), [⟨.ambient, 0, 0, .system, none⟩], none, none, .header, 7, false,
    0, 512, 0, Vector.replicate 8 Voice.freed⟩
  ps := ⟨.normal, 0, 0, none, 0, .idle, none, .cold, false⟩
  radio := ⟨.hunting, [], 0, [], false, [], 0, none, none⟩
  service := ⟨.hunting, [], .idle, none, none, none⟩
  decoder := ⟨false, .service⟩
  ct := ⟨[], 0, .fwd, StopLatch.empty, Vector.replicate 32 false⟩
  ss := ⟨[], [], [], false, none⟩
  nv := ⟨[], 0, ResumeRecord.blank, false, none⟩
  orderCount := 0
  pending := []

end Sys2Proof.Machine
end

