-- ==== Sys2Proof/Machine/Ops.lean ====
section
/-! DEFINITION. The shared operations over the state as a whole: one updater for each block, the reading and writing of
the working copy, the order of notices that the manual leaves open, and the guard of a part that runs. -/

namespace Sys2Proof.Machine

/-! ### Updaters, one for each block -/

def State.modSlu (s : State) (g : Slu → Slu) : State := { s with slu := g s.slu }
def State.modMl (s : State) (g : Ml → Ml) : State := { s with ml := g s.ml }
def State.modScan (s : State) (g : Scan → Scan) : State := { s with scan := g s.scan }
def State.modMt (s : State) (g : Mt → Mt) : State := { s with mt := g s.mt }
def State.modFe (s : State) (g : Fe → Fe) : State := { s with fe := g s.fe }
def State.modSc (s : State) (g : Sc → Sc) : State := { s with sc := g s.sc }
def State.modSe (s : State) (g : Se → Se) : State := { s with se := g s.se }
def State.modPs (s : State) (g : Ps → Ps) : State := { s with ps := g s.ps }
def State.modRadio (s : State) (g : Radio → Radio) : State := { s with radio := g s.radio }
def State.modService (s : State) (g : Service → Service) : State := { s with service := g s.service }
def State.modDecoder (s : State) (g : Decoder → Decoder) : State := { s with decoder := g s.decoder }
def State.modCt (s : State) (g : Ct → Ct) : State := { s with ct := g s.ct }
def State.modSs (s : State) (g : Ss → Ss) : State := { s with ss := g s.ss }
def State.modNv (s : State) (g : Nv → Nv) : State := { s with nv := g s.nv }

/-! ### Settings -/

/-- The value of a setting as the blocks read it: the working copy's (chapter 10). -/
def setting (s : State) (i : Nat) : Nat := s.ss.working.read i

/-- The working copy of index `i` takes the value `v`. -/
def storeSetting (i v : Nat) (s : State) : State :=
  s.modSs fun b => { b with working := b.working.write i v }

def locoAddress (s : State) : Nat := setting s 1
def consistAddress (s : State) : Nat := setting s 2

/-- Orientation held in the Consist form (setting 3): 0 NORMAL, 1 REVERSED. -/
def consistOrientation (s : State) : Orientation := if setting s 3 % 2 = 1 then .reversed else .normal

/-- Role held in the Consist form (setting 3): 0 LEAD, 1 TRAIL, weighted by 2. -/
def formRole (s : State) : ConsistRole := if setting s 3 / 2 % 2 = 1 then .trail else .lead

/-- The consist role of R68: LEAD while the consist address is 0, and otherwise the role of the consist settings. -/
def consistRole (s : State) : ConsistRole := if consistAddress s = 0 then .lead else formRole s

/-- Locomotive type MOTOR (setting 19). -/
def isMotorType (s : State) : Bool := setting s 19 == 1

/-- Function `n` is ON in the Function Table. -/
def functionOn (s : State) (n : Nat) : Bool := (s.ct.functions[n]?).getD false

/-- Function `n` is MOMENTARY (R65). -/
def isMomentary (s : State) (n : Nat) : Bool := setting s (96 + n) % 2 == 1

/-- Function `n` carries the consist-follow flag (R65). -/
def followsConsist (s : State) (n : Nat) : Bool := 2 ≤ setting s (96 + n)

/-! ### Orders that the manual leaves open -/

/-- Every way to put `x` into a list. -/
def insertions {α : Type} (x : α) : List α → List (List α)
  | [] => [[x]]
  | y :: ys => (x :: y :: ys) :: (insertions x ys).map (y :: ·)

/-- Every order of a list. -/
def orders {α : Type} : List α → List (List α)
  | [] => [[]]
  | x :: xs => (orders xs).flatMap (insertions x)

/-- The notices taken one after another. -/
def inOrder (fs : List (State → State)) (s : State) : State := fs.foldl (fun s f => f s) s

/-- Notices of one event that "carry no order among themselves" (R19, R71, R142, R175): where every order comes to the
same state, that state; otherwise the order is a free value, so nothing can be proved of it (assumption 1). -/
def anyOrder (fs : List (State → State)) (s : State) : State :=
  match (orders fs).map (fun p => inOrder p s) with
  | [] => s
  | r :: rs =>
    if rs.all (fun x => decide (x = r)) then r
    else
      let chosen := (r :: rs).getD (Config.noticeChoice s.orderCount % (rs.length + 1)) r
      { chosen with orderCount := chosen.orderCount + 1 }

/-- A notice that is only there under a condition. -/
def noticeIf (c : Bool) (f : State → State) : List (State → State) := if c then [f] else []

/-! ### A part that runs -/

/-- The command acts on a part that runs; below 5.0 V, and until a restart has given the blocks their state, nothing
happens (R127, R138). -/
def whileRunning (f : State → State) (s : State) : State :=
  match s.phase with
  | .running => f s
  | .off => s
  | .starting => s

/-- The outcome of a command. -/
abbrev Result := Host.Outcome State Fault Refusal

/-- The meaning of a command that acts on a part that runs. -/
def running (f : State → State) (s : State) : Result := .next (whileRunning f s)

/-- Timer that counts up by one while it runs. -/
def tickTimer (t : Option Nat) : Option Nat := t.map (· + 1)

/-- The timer runs and has reached its set time. -/
def timerAt (t : Option Nat) (limit : Nat) : Bool :=
  match t with
  | some n => limit ≤ n
  | none => false

end Sys2Proof.Machine
end

