-- ==== Sys2Proof/Machine/Operands.lean ====
section
/-! DEFINITION. How the operands of a command are read: the conversions of raw readings (R24, R25, R89), the bytes of
the sample memory's directory (R100, R102), and the frames of the two links (R143, R149), with the frame that a command
spells. -/

namespace Sys2Proof.Machine

/-! ### Conversions of raw readings -/

/-- A back-EMF reading: a voltage against the travel direction's polarity converts to 0, the BEMF offset is subtracted,
and a negative result is kept as 0 (R24). -/
def bemfValue (s : State) (polarity : Direction) (raw : Raw) : Nat :=
  (if polarity = s.slu.travel then raw.toNat else 0) - setting s 484

/-- A motor current in 10 mA (R25). -/
def currentValue (s : State) (raw : Raw) : Nat := min 1023 (raw.toNat * setting s 483 / 4096)

/-- A supply voltage in 0.1 V (R25). -/
def voltageValue (raw : Raw) : Nat := raw.toNat * 100 / 1024

/-- The middle one of three readings (R26). -/
def median3 (a b c : Nat) : Nat := max (min a b) (min (max a b) c)

/-- Point `j` of the thermistor table: its reading and its temperature (R184). -/
def thermPoint (s : State) (j : Nat) : Int × Int :=
  ((setting s (485 + 2 * j) : Int), (setting s (486 + 2 * j) : Int) - 40)

/-- The highest point number whose reading is at or below `x`, among points 0 to n - 1 (R89). -/
def thermIndex (s : State) (x : Nat) : Nat → Option Nat
  | 0 => none
  | n + 1 => if (thermPoint s n).1 ≤ (x : Int) then some n else thermIndex s x n

/-- The well temperature for a raw reading (R89). -/
def thermTemperature (s : State) (x : Nat) : Int :=
  match thermIndex s x 8 with
  | none => (thermPoint s 0).2
  | some j =>
    if j = 7 then (thermPoint s 7).2
    else
      let p := thermPoint s j
      let n := thermPoint s (j + 1)
      p.2 + truncDiv ((n.2 - p.2) * ((x : Int) - p.1)) (n.1 - p.1)

/-- The thermistor fault of a raw reading (R89). -/
def thermFaultOf (x : Nat) : Bool := x < 40 || 4050 < x

/-! ### Bytes of the sample memory (R100) -/

/-- Byte `i` of a read, as a number. -/
def byteAt {n : Nat} (v : Vector Byte n) (i : Nat) : Nat := ((v[i]?).getD 0).toNat

/-- A two-byte field, low byte first. -/
def word16 {n : Nat} (v : Vector Byte n) (i : Nat) : Nat := byteAt v i + 256 * byteAt v (i + 1)

/-- A three-byte field, low byte first. -/
def word24 {n : Nat} (v : Vector Byte n) (i : Nat) : Nat :=
  byteAt v i + 256 * byteAt v (i + 1) + 65536 * byteAt v (i + 2)

/-- The header begins with the project mark P, Z, S, P (R100). -/
def headerMarkOk (v : Vector Byte 64) : Bool :=
  byteAt v 0 == 0x50 && byteAt v 1 == 0x5A && byteAt v 2 == 0x53 && byteAt v 3 == 0x50

/-- The system cue table of a header: a priority above 15 is kept as 15 (R100, R101). -/
def headerCueTable (v : Vector Byte 64) : Vector (Nat × Nat) 16 :=
  Vector.ofFn fun k : Fin 16 => (byteAt v (7 + 2 * k.val), min 15 (byteAt v (8 + 2 * k.val)))

/-- The fields of a sound entry as they stand in the memory (R100). -/
structure SoundEntry where
  start : Nat
  length : Nat
  loopStart : Nat
  loopEnd : Nat
  baseStep : Nat
  baseVolume : Nat
  cls : PlayClass
  deriving DecidableEq, Repr

/-- A sound entry's 16 bytes, read as R102 takes them. -/
def soundEntry (v : Vector Byte 16) : SoundEntry where
  start := word24 v 0
  length := word24 v 3
  loopStart := word24 v 6
  loopEnd := word24 v 9
  baseStep := clampNat (word16 v 12) 64 1024
  baseVolume := byteAt v 14
  cls :=
    if byteAt v 15 = 1 then .looped else if byteAt v 15 = 2 then .chuff
    else if byteAt v 15 = 3 then .ambient else .oneShot

/-- The entry has a loop (R102). DESIGN CHOICE (assumption 45): a stored loop start or loop end above the range kept is
compared as it stands, so that such an entry has no loop. -/
def SoundEntry.hasLoop (e : SoundEntry) : Bool := e.loopStart < e.loopEnd && e.loopEnd ≤ e.length

/-- The entry is empty, or taken as empty because its length lies outside the range kept or its samples would run past
the 16 MiB space (R102; assumption 19). -/
def SoundEntry.isEmpty (e : SoundEntry) : Bool :=
  e.length == 0 || 8388607 < e.length || 16777216 < e.start + 2 * e.length

/-- The sixteen samples of a refill, low byte first (R100). -/
def refillSamples (v : Vector Byte 32) : List Sample :=
  (List.range 16).map fun i => (v[2 * i + 1]?).getD 0 ++ (v[2 * i]?).getD 0

/-! ### Codes of the frame kinds (R149, R150) -/

def kindClaim : Nat := 0x01
def kindRelease : Nat := 0x02
def kindDrive : Nat := 0x03
def kindFunc : Nat := 0x04
def kindEstop : Nat := 0x05
def kindQuery : Nat := 0x06
def kindConsistJoin : Nat := 0x07
def kindConsistLeave : Nat := 0x08
def kindSet : Nat := 0x09
def kindGet : Nat := 0x0A
def kindHaltAll : Nat := 0x10
def kindResumeAll : Nat := 0x11
def kindCredit : Nat := 0x18
def kindRestart : Nat := 0x20
def kindDefaults : Nat := 0x21
def kindIdentify : Nat := 0x22
def kindAck : Nat := 0x40
def kindRefused : Nat := 0x41
def kindStatus : Nat := 0x42
def kindValue : Nat := 0x43

/-- A two-byte field of a payload, high byte first (R143). -/
def fieldWord (hi lo : Nat) : Nat := 256 * hi + lo

/-- The two bytes of a field, high byte first (R143). -/
def wordBytes (n : Nat) : List Nat := [n / 256 % 256, n % 256]

def directionCode : Direction → Nat
  | .fwd => 0
  | .rev => 1

def directionOfCode (n : Nat) : Option Direction :=
  if n = 0 then some .fwd else if n = 1 then some .rev else none

def actionCode : FuncAction → Nat
  | .set => 0
  | .clear => 1
  | .press => 2
  | .release => 3

def actionOfCode (n : Nat) : Option FuncAction :=
  if n = 0 then some .set else if n = 1 then some .clear
  else if n = 2 then some .press else if n = 3 then some .release else none

def orientationCode : Orientation → Nat
  | .normal => 0
  | .reversed => 1

def orientationOfCode (n : Nat) : Option Orientation :=
  if n = 0 then some .normal else if n = 1 then some .reversed else none

def roleCode : ConsistRole → Nat
  | .lead => 0
  | .trail => 1

def roleOfCode (n : Nat) : Option ConsistRole :=
  if n = 0 then some .lead else if n = 1 then some .trail else none

def stealOfCode (n : Nat) : Option Bool :=
  if n = 0 then some false else if n = 1 then some true else none

def functionOfCode (n : Nat) : Option (Fin 32) :=
  if h : n < 32 then some ⟨n, h⟩ else none

/-! ### The check of a taken frame (R149) -/

/-- A frame from a throttle on the radio link: what its kind and payload ask for, or none where the frame fails. -/
def readThrottleFrame (f : Frame) : Option Instr :=
  if f.kind = kindClaim then
    match f.payload with
    | [x] => (stealOfCode x).map fun steal => .claim f.sender f.address steal
    | _ => none
  else if f.kind = kindRelease then
    match f.payload with
    | [] => some (.release f.sender f.address)
    | _ => none
  else if f.kind = kindDrive then
    match f.payload with
    | [x, d] => (directionOfCode d).map fun dir => .drive f.sender f.address x dir
    | _ => none
  else if f.kind = kindFunc then
    match f.payload with
    | [n, a] =>
      match functionOfCode n, actionOfCode a with
      | some fn, some act => some (.func f.sender f.address fn act)
      | _, _ => none
    | _ => none
  else if f.kind = kindEstop then
    match f.payload with
    | [] => some (.estop f.sender f.address)
    | _ => none
  else if f.kind = kindQuery then
    match f.payload with
    | [] => some (.query (.throttle f.sender f.address))
    | _ => none
  else if f.kind = kindConsistJoin then
    match f.payload with
    | [a, b, o, r] =>
      match orientationOfCode o, roleOfCode r with
      | some ori, some role =>
        if 1 ≤ fieldWord a b ∧ fieldWord a b ≤ 9999 then
          some (.consistJoin f.sender f.address (fieldWord a b) ori role)
        else none
      | _, _ => none
    | _ => none
  else if f.kind = kindConsistLeave then
    match f.payload with
    | [] => some (.consistLeave f.sender f.address)
    | _ => none
  else if f.kind = kindSet then
    match f.payload with
    | [a, b, c, d] => some (.set (.throttle f.sender f.address) (fieldWord a b) (fieldWord c d))
    | _ => none
  else if f.kind = kindGet then
    match f.payload with
    | [a, b] => some (.get (.throttle f.sender f.address) (fieldWord a b))
    | _ => none
  else none

/-- A frame that the radio link brought: throttle kinds from 1..59, HALT_ALL and RESUME_ALL from 60, CREDIT from 0. -/
def readRadioFrame (f : Frame) : Option Instr :=
  if f.kind = kindHaltAll then if f.sender = 60 ∧ f.payload = [] then some .haltAll else none
  else if f.kind = kindResumeAll then if f.sender = 60 ∧ f.payload = [] then some .resumeAll else none
  else if f.kind = kindCredit then
    match f.payload with
    | [n] => if f.sender = 0 then some (.credit n) else none
    | _ => none
  else if senderOk f.sender then readThrottleFrame f
  else none

/-- A frame that the service link brought, from any Sender. -/
def readServiceFrame (f : Frame) : Option Instr :=
  if f.kind = kindQuery then
    match f.payload with
    | [] => some (.query .setupTool)
    | _ => none
  else if f.kind = kindSet then
    match f.payload with
    | [a, b, c, d] => some (.set .setupTool (fieldWord a b) (fieldWord c d))
    | _ => none
  else if f.kind = kindGet then
    match f.payload with
    | [a, b] => some (.get .setupTool (fieldWord a b))
    | _ => none
  else if f.kind = kindRestart then
    match f.payload with
    | [] => some .restart
    | _ => none
  else if f.kind = kindDefaults then
    match f.payload with
    | [] => some .defaults
    | _ => none
  else if f.kind = kindIdentify then
    match f.payload with
    | [] => some .identify
    | _ => none
  else none

/-- The check of a taken frame (R149): the command that the frame asks for, or none where it is discarded silently. -/
def readFrame (link : Link) (f : Frame) : Option Instr :=
  match link with
  | .radio => readRadioFrame f
  | .service => readServiceFrame f

/-! ### The frame that a command spells (R143, R149) -/

/-- The Address and Sender of a frame on the service link are of no matter; the model's frames carry 0 and 62. -/
def serviceFrame (kind : Nat) (payload : List Nat) : Option (Link × Frame) := some (.service, ⟨kind, 62, 0, payload⟩)

def throttleFrame (kind sender address : Nat) (payload : List Nat) : Option (Link × Frame) :=
  some (.radio, ⟨kind, sender, address, payload⟩)

/-- The frame by which a party sends a command, with its link; none for a command that is no frame. The Address of
HALT_ALL, RESUME_ALL and CREDIT is the broadcast address. -/
def frameOf : Instr → Option (Link × Frame)
  | .claim n a steal => throttleFrame kindClaim n a [if steal then 1 else 0]
  | .release n a => throttleFrame kindRelease n a []
  | .drive n a x dir => throttleFrame kindDrive n a [x, directionCode dir]
  | .func n a fn act => throttleFrame kindFunc n a [fn.val, actionCode act]
  | .estop n a => throttleFrame kindEstop n a []
  | .query (.throttle n a) => throttleFrame kindQuery n a []
  | .query .setupTool => serviceFrame kindQuery []
  | .consistJoin n a c o r => throttleFrame kindConsistJoin n a (wordBytes c ++ [orientationCode o, roleCode r])
  | .consistLeave n a => throttleFrame kindConsistLeave n a []
  | .set (.throttle n a) i v => throttleFrame kindSet n a (wordBytes i ++ wordBytes v)
  | .set .setupTool i v => serviceFrame kindSet (wordBytes i ++ wordBytes v)
  | .get (.throttle n a) i => throttleFrame kindGet n a (wordBytes i)
  | .get .setupTool i => serviceFrame kindGet (wordBytes i)
  | .haltAll => some (.radio, ⟨kindHaltAll, 60, 0, []⟩)
  | .resumeAll => some (.radio, ⟨kindResumeAll, 60, 0, []⟩)
  | .credit n => some (.radio, ⟨kindCredit, 0, 0, [n]⟩)
  | .restart => serviceFrame kindRestart []
  | .defaults => serviceFrame kindDefaults []
  | .identify => serviceFrame kindIdentify []
  | _ => none

/-! ### The bytes of a frame (R143, R144) -/

/-- A frame's bytes without the check. -/
def Frame.body (f : Frame) : List Nat :=
  [f.kind, f.sender] ++ wordBytes f.address ++ [f.payload.length] ++ f.payload

/-- The check byte: the sum of all bytes of the frame is 0 mod 256. -/
def checkByte (bytes : List Nat) : Nat := (256 - bytes.sum % 256) % 256

/-- All bytes of a frame. -/
def Frame.bytes (f : Frame) : List Nat := f.body ++ [checkByte f.body]

/-- The frame that a complete run of bytes with a good check stands for. -/
def frameOfBytes (bs : List Nat) : Frame where
  kind := bs.getD 0 0
  sender := bs.getD 1 0
  address := fieldWord (bs.getD 2 0) (bs.getD 3 0)
  payload := (bs.drop 5).take (bs.getD 4 0)

end Sys2Proof.Machine
end

