-- ==== Sys2Proof/Machine/Flags.lean ====
section
/-! DEFINITION. What STATUS carries: the condition flags, the Stop causes and the STATUS payload (R44, R63, R98, R124,
R142, R151), and the switches of the motor bridge that the bridge state gives (R22, R31). -/

namespace Sys2Proof.Machine

/-- MOTOR_FAULT (R44). -/
def motorFaultFlag (s : State) : Bool := s.ml.fault

/-- MOTOR_TRIP (R44). -/
def motorTripFlag (s : State) : Bool := s.ml.bridge == .tripped || 0 < s.ml.tripCounter

/-- SENSOR_FALLBACK (R63). -/
def sensorFallbackFlag (s : State) : Bool := s.mt.fallback

/-- SMOKE_DRY (R98). -/
def smokeDryFlag (s : State) : Bool := s.sc.smoke == .dry

/-- NO_PROJECT (R124). -/
def noProjectFlag (s : State) : Bool := s.se.dir == .noProject

/-- LOW_POWER (R142). -/
def lowPowerFlag (s : State) : Bool := s.ps.power != .normal

/-- The weight of a flag that is present. -/
def weight (present : Bool) (w : Nat) : Nat := if present then w else 0

/-- The condition flags byte of STATUS (R151). -/
def conditionFlags (s : State) : Nat :=
  weight (motorFaultFlag s) 1 + weight (motorTripFlag s) 2 + weight (sensorFallbackFlag s) 4 +
    weight (smokeDryFlag s) 8 + weight (noProjectFlag s) 16 + weight s.radio.overrun 32 + weight (lowPowerFlag s) 64

/-- The Stop latch holds at least one cause. -/
def StopLatch.held (l : StopLatch) : Bool := l.throttleEstop || l.baseHalt || l.linkBreak || l.signalLoss

/-- The Stop causes byte of STATUS (R151). -/
def stopCauses (l : StopLatch) : Nat :=
  weight l.throttleEstop 1 + weight l.baseHalt 2 + weight l.linkBreak 4 + weight l.signalLoss 8

/-- The code of a power state (R151). -/
def PowerState.code : PowerState → Nat
  | .normal => 0
  | .bridging => 1
  | .dimmed => 2
  | .coasting => 3
  | .down => 4

/-- The code of a smoke state (R151). -/
def SmokeState.code : SmokeState → Nat
  | .off => 0
  | .preheat => 1
  | .ready => 2
  | .shed => 3
  | .dry => 4

/-- The code of a restart kind (R139). -/
def RestartKind.code : RestartKind → Nat
  | .cold => 0
  | .warm => 1
  | .commanded => 2
  | .defaults => 3

/-- The code of a refusal reason (R150). -/
def Reason.code : Reason → Nat
  | .notDriver => 1
  | .driverHeld => 2
  | .inConsist => 3
  | .moving => 4
  | .badSetting => 5
  | .readOnly => 6
  | .classLocked => 7
  | .busy => 8
  | .notInConsist => 9

/-- The entry has role DRIVER. -/
def Entry.isDriver (e : Entry) : Bool :=
  match e.role with
  | .driver _ _ => true
  | .watcher => false

/-- The DRIVER entry, LOST or not. -/
def driverEntry (s : State) : Option Entry := s.ct.entries.find? Entry.isDriver

/-- The Driver ID of STATUS: 0 when there is none (R151). -/
def driverId (s : State) : Nat :=
  match driverEntry s with
  | some e => e.id
  | none => 0

/-- The fourteen bytes of a STATUS after its destination (R151). -/
def statusContent (s : State) : List Nat :=
  [s.ct.target, directionCode s.ct.requested + 2 * directionCode s.slu.travel] ++ wordBytes s.slu.r ++ wordBytes s.ml.m ++
    [s.mt.l, s.ps.power.code, driverId s, stopCauses s.ct.latch, conditionFlags s] ++
    wordBytes (consistAddress s) ++ [s.sc.smoke.code]

/-! ### The motor bridge's switches (R22, R31) -/

/-- What one switch of the bridge does: off, on, or switched at 20 kHz with an on-time of duty/1023. -/
inductive Switch where
  | off
  | on
  | switched (duty : Nat)
  deriving DecidableEq, Repr

/-- The four switches of the bridge. -/
structure Switches where
  aHigh : Switch
  aLow : Switch
  bHigh : Switch
  bLow : Switch
  deriving DecidableEq, Repr

/-- What the four switches do: all off in the gap (R22) and while the part does not run (R127), and as R31 gives in the
drive part. -/
def bridgeSwitches (s : State) : Switches :=
  if s.phase ≠ .running ∨ s.ml.inGap then ⟨.off, .off, .off, .off⟩
  else
    match s.ml.bridge with
    | .drive =>
      match s.slu.travel with
      | .fwd => ⟨.switched s.ml.d, .off, .off, .on⟩
      | .rev => ⟨.off, .on, .switched s.ml.d, .off⟩
    | .brake => ⟨.off, .on, .off, .on⟩
    | .coast => ⟨.off, .off, .off, .off⟩
    | .tripped => ⟨.off, .off, .off, .off⟩

end Sys2Proof.Machine
end

