-- ==== Sys2Proof/Machine/Sound.lean ====
section
/-! DEFINITION. The Sound Engine (chapter 6): cues, allocation, voices, the sample-memory port and the mix. -/

namespace Sys2Proof.Machine

/-! ### Cues (section 6.2) -/

/-- The number of a system kind's record in the cue table (R104); DIRECT has none. -/
def CueKind.record : CueKind → Option (Fin 16)
  | .chuffLight => some 0
  | .chuffHeavy => some 1
  | .startMoving => some 2
  | .stopped => some 3
  | .reversed => some 4
  | .brakeOn => some 5
  | .brakeOff => some 6
  | .laborUp => some 7
  | .laborDown => some 8
  | .engineStart => some 9
  | .engineStop => some 10
  | .ambient => some 11
  | .estop => some 12
  | .claimed => some 13
  | .lowPower => some 14
  | .smokeDry => some 15
  | .direct => none

/-- The table's sound number of a kind; DIRECT has none. -/
def tableSound (b : Se) (k : CueKind) : Nat :=
  match k.record with
  | some n => b.cueTable[n].1
  | none => 0

/-- The table's priority of a kind. -/
def tablePriority (b : Se) (k : CueKind) : Nat :=
  match k.record with
  | some n => b.cueTable[n].2
  | none => 0

/-- The priority of a DIRECT cue by its origin (R61, R70, R104). -/
def originPriority : CueOrigin → Nat
  | .map e => 8 + (7 - e.val / 4)
  | .matcher _ => 6
  | .system => 0

def Cue.isChuff (c : Cue) : Bool := c.kind == .chuffLight || c.kind == .chuffHeavy

/-- The variant offset of a chuff cue: chuff index mod Chuff variants (R104); 0 for any other cue. -/
def variantOffset (s : State) (chuff : Option Nat) : Nat :=
  match chuff with
  | some i => i % setting s 46
  | none => 0

/-- A system cue as R104 forms it; while CHECKING, its sound number and priority are left open (R109). -/
def systemCue (s : State) (k : CueKind) (chuff : Option Nat) : Cue :=
  if s.se.dir = .checking then ⟨k, variantOffset s chuff, 0, .system, chuff⟩
  else ⟨k, tableSound s.se k + variantOffset s chuff, tablePriority s.se k, .system, chuff⟩

/-- A DIRECT cue (R61, R70); while CHECKING its priority is left open (R109). -/
def directCue (s : State) (origin : CueOrigin) (sound : Nat) : Cue :=
  ⟨.direct, sound, if s.se.dir = .checking then 0 else originPriority origin, origin, none⟩

/-- The Sound Engine takes cues: not with NO_PROJECT (R103), and not after the order to switch the outputs off
(R123). -/
def takesCues (s : State) : Bool := s.se.dir != .noProject && !s.ps.outputsOff

/-! ### Voices and the port -/

/-- The voices in number order. -/
def allVoices : List (Fin 8) := [0, 1, 2, 3, 4, 5, 6, 7]

def Voice.inUse (v : Voice) : Bool := v.st != .free

/-- The voice is heard and served by the port (R113). -/
def Voice.sounds (v : Voice) : Bool := v.st == .playing || v.st == .looping || v.st == .releasing

/-- A voice's priority is that of the cue it was opened for (R111). -/
def Voice.priority (v : Voice) : Nat := (v.cue.map (·.priority)).getD 0

/-- The voice was opened for an AMBIENT cue (R108). -/
def Voice.isAmbient (v : Voice) : Bool := v.inUse && (v.cue.map (·.kind) == some .ambient)

/-- The integer part of a voice's position. -/
def Voice.intPos (v : Voice) : Nat := v.position / 256

def setVoice (i : Fin 8) (v : Voice) (s : State) : State :=
  s.modSe fun b => { b with voices := b.voices.set i v }

/-- The next sample in play order, `n` samples after fetch point `f`: while the loop is in force, the sample after loop
end - 1 is loop start (R116). -/
def playAdvance (v : Voice) (f n : Nat) : Nat :=
  if v.loopOn && v.loopEnd ≤ f + n && v.loopStart < v.loopEnd then
    v.loopStart + (f + n - v.loopEnd) % (v.loopEnd - v.loopStart)
  else f + n

/-- Samples remain to be fetched (R116). -/
def Voice.remains (v : Voice) : Bool := v.loopOn || v.fetch < v.length

/-- A voice tests its refill request (R116). -/
def testRefill (v : Voice) : Voice :=
  if v.sounds && v.buffer.length ≤ 16 && v.refill == .none && v.remains then { v with refill := .pending } else v

/-- How many samples a refill granted now brings (R116). -/
def refillCount (v : Voice) : Nat := if v.loopOn then 16 else min 16 (v.length - v.fetch)

/-- How many of the refill's samples come before its first wrap. -/
def refillPreWrap (v : Voice) : Nat :=
  if v.loopOn then min (refillCount v) (v.loopEnd - v.fetch) else refillCount v

/-- The byte address of sound entry `n` (R100). -/
def entryAddress (n : Nat) : Nat := 64 + 16 * (n - 1)

/-- The byte address of sample `n` of the sound that a voice plays (R100, R102). -/
def sampleAddress (v : Voice) (n : Nat) : Nat := v.start + 2 * n

/-- The addresses of the samples that a refill granted now brings, in play order (R116). -/
def refillAddresses (v : Voice) : List Nat :=
  (List.range (refillCount v)).map fun n => sampleAddress v (playAdvance v v.fetch n)

/-- The addresses of the bytes that the read in the port brings, in order (R100). -/
def Port.bytes : Port → List Nat
  | .idle => []
  | .header => List.range 64
  | .entry a => List.range' a 16
  | .refill _ addresses _ _ => addresses.flatMap fun a => [a, a + 1]

/-- The first voice with a pending refill, from the one after the last served voice, wrapping from 7 to 0 (R115). -/
def nextRefill (b : Se) : Option (Fin 8) :=
  (allVoices.map fun i => b.lastServed + 1 + i).find? fun i => b.voices[i].refill == .pending

/-- The port arbiter grants a read when the port is idle and a read waits: a directory read first (R115). -/
def grantPort (s : State) : State :=
  if s.se.port = .idle then
    match s.se.entryWaiting with
    | some a => s.modSe fun b => { b with port := .entry a, entryWaiting := none }
    | none =>
      match nextRefill s.se with
      | none => s
      | some i =>
        let v := s.se.voices[i]
        s.modSe fun b =>
          { b with
            port := .refill i (refillAddresses v) v.fetch (refillPreWrap v)
            lastServed := i
            voices := b.voices.set i { v with refill := .inTransfer } }
  else s

/-! ### Allocation (section 6.3) -/

/-- A voice opened for a cue: OPENING, no cancel mark, empty buffer, refill none (R110). -/
def openedVoice (c : Cue) (order : Nat) : Voice := { Voice.freed with st := .opening, cue := some c, order := order }

/-- The lowest priority among the voices in use. -/
def lowestPriority (b : Se) : Option Nat :=
  ((allVoices.filter fun i => b.voices[i].inUse).map fun i => b.voices[i].priority).min?

/-- Of the voices of priority `p` in use, the one of lowest opening order (R111). -/
def oldestOf (b : Se) (p : Nat) : Option (Fin 8) :=
  let at' := allVoices.filter fun i => b.voices[i].inUse && b.voices[i].priority == p
  match (at'.map fun i => b.voices[i].order).min? with
  | none => none
  | some o => at'.find? fun i => b.voices[i].order == o

/-- The allocator's choice of a voice (R111): a retrigger, a FREE voice, a steal, or none. -/
def chooseVoice (b : Se) (c : Cue) : Option (Fin 8) :=
  match allVoices.find? fun i => c.isChuff && b.voices[i].inUse && b.voices[i].cls == .chuff with
  | some i => some i
  | none =>
    match allVoices.find? fun i => b.voices[i].st == .free with
    | some i => some i
    | none =>
      match lowestPriority b with
      | none => none
      | some p => if p < c.priority then oldestOf b p else none

/-- The allocator takes cues from the head until one opens a voice (R110). -/
def allocateFrom : List Cue → State → State
  | [], s => s.modSe fun b => { b with queue := [] }
  | c :: rest, s =>
    if c.sound = 0 ∨ s.se.soundCount < c.sound then allocateFrom rest s
    else
      match chooseVoice s.se c with
      | none => allocateFrom rest s
      | some i =>
        s.modSe fun b =>
          { b with
            queue := rest
            alloc := some i
            entryWaiting := some (entryAddress c.sound)
            openCount := b.openCount + 1
            voices := b.voices.set i (openedVoice c b.openCount) }

/-- The allocator works when the directory is VALID and no allocation is in flight (R110). -/
def allocate (s : State) : State :=
  if s.se.dir = .valid ∧ s.se.alloc = none ∧ s.ps.outputsOff = false then grantPort (allocateFrom s.se.queue s) else s

/-! ### Joining the Cue Queue -/

/-- A chuff cue replaces the waiting chuff cue in place (R105). -/
def replaceChuff (c : Cue) : List Cue → List Cue
  | [] => []
  | d :: q => if d.isChuff then c :: q else d :: replaceChuff c q

/-- The first cue of priority `p` leaves the queue (R106). -/
def removePriority (p : Nat) : List Cue → List Cue
  | [] => []
  | d :: q => if d.priority = p then q else d :: removePriority p q

/-- The lowest priority among the queued cues. -/
def lowestQueued (q : List Cue) : Nat := ((q.map (·.priority)).min?).getD 0

/-- The Cue Queue after a cue is raised to it (R105, R106, R109). -/
def joinQueue (dir : DirState) (c : Cue) (q : List Cue) : List Cue :=
  if c.isChuff && q.any Cue.isChuff then replaceChuff c q
  else if q.length < 16 then q ++ [c]
  else if dir = .checking then q
  else if lowestQueued q < c.priority then removePriority (lowestQueued q) q ++ [c]
  else q

/-- A formed cue joins the queue, and the allocator starts when it can (R105, R110). -/
def joinCue (c : Cue) (s : State) : State :=
  allocate (s.modSe fun b => { b with queue := joinQueue b.dir c b.queue })

/-- A system cue joins, unless the project has no sound for its kind (R104). -/
def joinSystem (k : CueKind) (chuff : Option Nat) (s : State) : State :=
  if s.se.dir = .valid ∧ tableSound s.se k = 0 then s else joinCue (systemCue s k chuff) s

/-! ### RELEASE and the ambient sound -/

/-- Nothing that the voice has fetched or passed lies after a wrap of its loop: the fetch point is as far ahead of the
position as its buffer reaches. -/
def Voice.unwrapped (v : Voice) : Bool := !v.loopOn || v.fetch + v.skip == v.intPos + v.buffer.length

/-- A voice enters RELEASING and plays on from its position to its length (R114): its loop ceases, the samples after a wrap
are discarded, and the fetch point is then the sample after the last one kept. DEDUCED: a buffer that ends right at the
wrap, and a position that has wrapped before its samples came, are handled as a wrapped sample is (assumption 35). -/
def enterReleasing (v : Voice) : Voice :=
  if v.unwrapped then { v with st := .releasing, loopOn := false }
  else
    let kept := v.buffer.take (v.loopEnd - v.intPos)
    { v with st := .releasing, loopOn := false, buffer := kept, fetch := v.intPos + kept.length, skip := 0 }

/-- What a RELEASE of its origin does to a voice (R107). -/
def releaseVoice (v : Voice) : Voice :=
  match v.st with
  | .playing => enterReleasing v
  | .looping => enterReleasing v
  | .opening => { v with cancel := true }
  | .releasing => v
  | .free => v

/-- The cues that satisfy `p` leave the queue, and the voices opened for such a cue are released. -/
def releaseWhere (p : Cue → Bool) (s : State) : State :=
  s.modSe fun b =>
    { b with
      queue := b.queue.filter fun c => !p c
      voices := b.voices.map fun v =>
        match v.cue with
        | some c => if p c then releaseVoice v else v
        | none => v }

/-- A RELEASE for origin MAP entry `e` (R107). -/
def releaseEntry (e : Fin 24) (s : State) : State :=
  releaseWhere (fun c => c.kind == .direct && c.origin == .map e) s

/-- An AMBIENT cue already waits, or an ambient voice is in use and not RELEASING (R108). -/
def ambientPresent (b : Se) : Bool :=
  b.queue.any (fun c => c.kind == .ambient) ||
    allVoices.any fun i => b.voices[i].isAmbient && b.voices[i].st != .releasing

/-- A raised AMBIENT cue (R108). -/
def raiseAmbient (s : State) : State := if ambientPresent s.se then s else joinSystem .ambient none s

/-- A system cue is raised to the Sound Engine (R103 to R109). DESIGN CHOICE: with type MOTOR an ENGINE_START for which the
project has no sound still brings its AMBIENT cue, and an ENGINE_STOP without a sound still releases the ambient voices
(assumption 34). -/
def raiseCue (k : CueKind) (chuff : Option Nat) (s : State) : State :=
  if takesCues s then
    match k with
    | .ambient => raiseAmbient s
    | .engineStart =>
      let s' := joinSystem .engineStart none s
      if isMotorType s then raiseAmbient s' else s'
    | .engineStop =>
      joinSystem .engineStop none (if isMotorType s then releaseWhere (fun c => c.kind == .ambient) s else s)
    | k => joinSystem k chuff s
  else s

/-- A DIRECT cue is raised by a map entry or a matcher. -/
def raiseDirect (origin : CueOrigin) (sound : Nat) (s : State) : State :=
  if takesCues s then joinCue (directCue s origin sound) s else s

/-! ### Completion of the header read (R101, R109) -/

/-- A queued cue takes its sound number and priority when the table is known (R109). -/
def resolveCue (b : Se) (c : Cue) : Cue :=
  match c.kind with
  | .direct => { c with priority := originPriority c.origin }
  | k => { c with sound := tableSound b k + c.sound, priority := tablePriority b k }

/-- The project has a sound for the cue: it is DIRECT, or its kind's table sound number is not 0. -/
def hasTableSound (b : Se) (c : Cue) : Bool := c.kind == .direct || tableSound b c.kind != 0

def headerReadDone (bytes : Vector Byte 64) (s : State) : State :=
  if s.se.port = .header then
    let s := s.modSe fun b => { b with port := .idle }
    if s.ps.outputsOff then s
    else if headerMarkOk bytes && byteAt bytes 6 != 0 then
      let s := storeSetting 504 (word16 bytes 4) s
      let s := s.modSe fun b =>
        { b with dir := .valid, soundCount := byteAt bytes 6, cueTable := headerCueTable bytes }
      allocate (s.modSe fun b => { b with queue := (b.queue.filter (hasTableSound b)).map (resolveCue b) })
    else
      (storeSetting 504 0 s).modSe fun b => { b with dir := .noProject, queue := [] }
  else s

/-! ### Completion of an entry read (R112, R121) -/

/-- The class played (R112). -/
def playedClass (c : Cue) (cls : PlayClass) : PlayClass :=
  if c.isChuff then .chuff else if cls = .chuff then .oneShot else cls

/-- The cue volume of R121. -/
def cueVolume (s : State) (c : Cue) : Int :=
  if c.isChuff then
    (setting s 44 : Int) + floorDiv (((setting s 45 : Int) - (setting s 44 : Int)) * (s.mt.l : Int)) 255
  else 255

/-- The voice that starts with an entry's fields (R112). -/
def startedVoice (s : State) (v : Voice) (c : Cue) (e : SoundEntry) : Voice :=
  let cls := playedClass c e.cls
  let loopOn := e.hasLoop && (cls == .looped || cls == .ambient)
  testRefill
    { v with
      st := if loopOn && e.loopStart == 0 then .looping else .playing
      start := e.start
      length := e.length
      loopStart := e.loopStart
      loopEnd := e.loopEnd
      loopOn := loopOn
      baseStep := e.baseStep
      baseVolume := e.baseVolume
      cls := cls
      volume := (floorDiv ((e.baseVolume : Int) * cueVolume s c) 255).toNat
      position := 0
      buffer := []
      skip := 0
      fetch := 0
      refill := .none }

/-- The opening voice when its entry read completes (R112). -/
def openedDone (s : State) (v : Voice) (e : SoundEntry) : Voice :=
  match v.cue with
  | none => Voice.freed
  | some c => if v.cancel || e.isEmpty then Voice.freed else startedVoice s v c e

def entryReadDone (bytes : Vector Byte 16) (s : State) : State :=
  match s.se.port with
  | .entry _ =>
    let s := s.modSe fun b => { b with port := .idle }
    match s.se.alloc with
    | none => grantPort s
    | some i =>
      let s := s.modSe fun b =>
        { b with alloc := none, voices := b.voices.set i (openedDone s b.voices[i] (soundEntry bytes)) }
      grantPort (allocate s)
  | .idle => s
  | .header => s
  | .refill _ _ _ _ => s

/-! ### Completion of a refill (R117) -/

/-- The samples of a refill that the voice takes (R117): all, but in RELEASING only those before the refill's wrap, and
none where the fetch point has been set anew since the grant, because they follow an earlier wrap (R114). -/
def takenSamples (v : Voice) (start preWrap : Nat) (brought : List Sample) : List Sample :=
  if v.st = .releasing then (if v.fetch = start then brought.take preWrap else []) else brought

/-- The voice after the samples of its refill have arrived: passed samples are discarded, the rest are appended, and the
fetch point moves past the last of them (R117). -/
def refilledVoice (v : Voice) (start preWrap : Nat) (brought : List Sample) : Voice :=
  let taken := takenSamples v start preWrap brought
  testRefill
    { v with
      buffer := v.buffer ++ taken.drop v.skip
      skip := v.skip - taken.length
      fetch := playAdvance v v.fetch taken.length
      refill := .none }

def refillDone (bytes : Vector Byte 32) (s : State) : State :=
  match s.se.port with
  | .refill i addresses start preWrap =>
    let s := s.modSe fun b => { b with port := .idle }
    let v := s.se.voices[i]
    let brought := (refillSamples bytes).take addresses.length
    grantPort (if v.refill = .inTransfer then setVoice i (refilledVoice v start preWrap brought) s else s)
  | .idle => s
  | .header => s
  | .entry _ => s

/-! ### The output sample (section 6.6) -/

/-- The step of a voice (R119). -/
def stepEff (s : State) (v : Voice) : Nat :=
  if v.cls = .chuff ∨ v.cls = .ambient then min 2047 (v.baseStep + v.baseStep * setting s 43 * s.slu.r / 262144)
  else v.baseStep

/-- A voice after one advance (R118, steps 2 to 5). -/
def advanceVoice (step : Nat) (v : Voice) : Voice :=
  let before := v.intPos
  let passed := (v.position + step) / 256 - before
  let v := { v with
    position := v.position + step
    buffer := v.buffer.drop passed
    skip := v.skip + (passed - v.buffer.length) }
  let v := if v.loopOn && v.st == .playing && v.loopStart ≤ v.intPos then { v with st := .looping } else v
  let v :=
    if v.loopOn && v.st == .looping && v.loopEnd ≤ v.intPos && v.loopStart < v.loopEnd then
      { v with
        position :=
          256 * (v.loopStart + (v.intPos - v.loopEnd) % (v.loopEnd - v.loopStart)) + v.position % 256 }
    else v
  if !v.loopOn && v.length ≤ v.intPos then Voice.freed else testRefill v

/-- One turn of a voice at an output sample: the voice after it (R118, R120). -/
def voiceTurn (s : State) (v : Voice) : Voice :=
  if v.sounds then
    match v.buffer with
    | [] => testRefill v
    | _ :: _ => advanceVoice (stepEff s v) v
  else v

/-- What a voice contributes at an output sample (R118, step 1; R120). -/
def contribution (v : Voice) : Int :=
  if v.sounds then
    match v.buffer with
    | [] => 0
    | x :: _ => floorDiv (x.toInt * (v.volume : Int)) 256
  else 0

/-- The master volume in effect (R123). -/
def masterInEffect (s : State) : Nat :=
  if s.se.mute then 0
  else
    match s.ps.power with
    | .normal => setting s 42
    | .bridging => setting s 42
    | .dimmed => setting s 42 / 2
    | .coasting => setting s 42 / 2
    | .down => setting s 42 / 2

/-- The mixed output of the voices' contributions (R122). -/
def mixOutput (s : State) : Int :=
  let acc := (allVoices.map fun i => contribution s.se.voices[i]).foldl (· + ·) 0
  clampInt (floorDiv (acc * (masterInEffect s : Int)) 256) (-32768) 32767

/-- The PWM level of an output value (R122). -/
def pwmLevel (out : Int) : Nat := (floorDiv (out + 32768) 64).toNat

def outputSample (s : State) : State :=
  if s.ps.outputsOff then s
  else
    let out := mixOutput s
    grantPort
      (s.modSe fun b => { b with output := out, pwm := pwmLevel out, voices := b.voices.map (voiceTurn s) })

/-- The Sound Engine at the order to switch the outputs off (R123). DESIGN CHOICE: an entry read that still waits for the
port is withdrawn and never granted (assumption 36). -/
def soundOff (s : State) : State :=
  s.modSe fun b =>
    { b with queue := [], alloc := none, entryWaiting := none, pwm := 0, voices := Vector.replicate 8 Voice.freed }

end Sys2Proof.Machine
end

