-- ==== Sys2Proof/Machine/Smoke.lean ====
section
/-! DEFINITION. The Smoke Controller (chapter 5): states, regulation, protection and the fan. -/

namespace Sys2Proof.Machine

/-- PREHEAT or READY: the states in which the heater may run. -/
def SmokeState.heats (st : SmokeState) : Bool := st == .preheat || st == .ready

/-- The heater demand of the latest T (R92). -/
def heaterDemand (s : State) : Nat :=
  match s.sc.temp with
  | none => 0
  | some t =>
    if s.sc.smoke.heats then
      if (setting s 32 : Int) ≤ t then 0
      else min 255 (((setting s 32 : Int) - t).toNat * setting s 34)
    else 0

/-- The SC forms the demand and the duty anew (R92); after the outputs were ordered off the duty stays 0 (R98). -/
def formHeater (s : State) : State :=
  let d := heaterDemand s
  s.modSc fun c => { c with demand := d, duty := if s.ps.outputsOff then 0 else min d c.cap }

/-- The MOTOR type fan level in READY (R95). -/
def motorFan (s : State) : Nat :=
  if s.sc.burst.isSome then 255 else min 255 (setting s 39 + s.mt.l * setting s 40 / 255)

/-- With MOTOR type the fan level is formed anew while the state is READY (R95). -/
def formFan (s : State) : State :=
  if isMotorType s ∧ s.sc.smoke = .ready ∧ s.ps.outputsOff = false then
    s.modSc fun c => { c with fan := motorFan s }
  else s

/-- The state becomes DRY (R91). -/
def enterDry (s : State) : State :=
  raiseCue .smokeDry none
    (s.modSc fun c => { c with smoke := .dry, demand := 0, duty := 0, fan := 0, puff := none })

/-- The entry tests of R90, in order, when a reading has been taken since the restart. -/
def smokeTests (s : State) : State :=
  match s.sc.temp with
  | none => s
  | some t =>
    if s.sc.smoke.heats then
      if s.sc.thermFault then enterDry s
      else if (setting s 32 : Int) + (setting s 33 : Int) < t then enterDry s
      else if s.sc.smoke = .preheat ∧ (setting s 32 : Int) - 10 ≤ t then
        formFan (s.modSc fun c => { c with smoke := .ready })
      else s
    else s

/-- The state becomes PREHEAT or READY: the entry tests apply, and demand and duty are formed (R86, R88, R92). -/
def enterHeating (st : SmokeState) (s : State) : State :=
  formHeater (smokeTests (formFan (s.modSc fun c => { c with smoke := st })))

/-- The smoke enable turns on (R86). -/
def smokeEnableOn (s : State) : State :=
  if s.sc.smoke = .off then
    let s := s.modSc fun c => { c with purge := none, fan := 0 }
    if s.ps.power = .normal then enterHeating .preheat s
    else formHeater (s.modSc fun c => { c with smoke := .shed })
  else s

/-- The purge begins (R96); a Purge time of 0 ends it in the event that begins it. -/
def beginPurge (s : State) : State :=
  let limit := setting s 41
  s.modSc fun c =>
    if limit = 0 then { c with fan := 0, purge := none, purgeLimit := 0 }
    else { c with fan := 128, purge := some 0, purgeLimit := limit }

/-- The smoke enable turns off (R87). After the order to switch the outputs off, a turn-off whose purge would raise the
fan is not taken (R98); with a Purge time of 0 no drive rises, and it is taken (assumption 22). -/
def smokeEnableOff (s : State) : State :=
  match s.sc.smoke with
  | .off => s
  | .dry => s.modSc fun c => { c with smoke := .off, demand := 0, duty := 0, fan := 0 }
  | .preheat => smokeTurnOff s
  | .ready => smokeTurnOff s
  | .shed => smokeTurnOff s
where
  /-- PREHEAT, READY or SHED becomes OFF, and the purge begins (R87). -/
  smokeTurnOff (s : State) : State :=
    if s.ps.outputsOff = true ∧ setting s 41 ≠ 0 then s
    else beginPurge (s.modSc fun c =>
      { c with smoke := .off, demand := 0, duty := 0, puff := none, burst := none })

/-- The smoke enable reported by the Function Mapper (R86, R87). -/
def smokeEnableReport (on : Bool) (s : State) : State := if on then smokeEnableOn s else smokeEnableOff s

/-- The SC on a change of power state to `new` (R88); it finds the new state already held. -/
def smokePower (old new : PowerState) (s : State) : State :=
  match s.sc.smoke with
  | .preheat => smokeShed old new s
  | .ready => smokeShed old new s
  | .shed =>
    if new = .normal ∧ old ≠ .normal then
      match s.sc.temp with
      | some t => enterHeating (if (setting s 32 : Int) - 10 ≤ t then .ready else .preheat) s
      | none => enterHeating .preheat s
    else s
  | .off => s
  | .dry => s
where
  /-- PREHEAT or READY becomes SHED when NORMAL is left (R88). -/
  smokeShed (old new : PowerState) (s : State) : State :=
    if old = .normal ∧ new ≠ .normal then
      s.modSc fun c => { c with smoke := .shed, demand := 0, duty := 0, fan := 0, puff := none }
    else s

/-- A CHUFF event or a PUFF request (R94). -/
def smokePuff (s : State) : State :=
  if isMotorType s = false ∧ s.sc.smoke = .ready ∧ s.ps.outputsOff = false then
    s.modSc fun c =>
      { c with
        fan := min 255 (setting s 36 + s.mt.l * setting s 37 / 255)
        puff := some 0
        puffLimit := setting s 38 }
  else s

/-- ENGINE_START reaches the SC: with MOTOR type the burst timer starts from 0 in every smoke state (R95). After the
outputs were ordered off a burst in READY would raise the fan and is not taken (R98, assumption 22). -/
def smokeEngineStart (s : State) : State :=
  if isMotorType s = true ∧ (s.ps.outputsOff = false ∨ s.sc.smoke ≠ .ready) then
    formFan (s.modSc fun c => { c with burst := some 0 })
  else s

/-- The puff timer expires (R94). -/
def puffExpire (s : State) : State := s.modSc fun c => { c with fan := 0, puff := none }

/-- The burst timer expires (R95). -/
def burstExpire (s : State) : State := formFan (s.modSc fun c => { c with burst := none })

/-- The purge timer expires (R96). -/
def purgeExpire (s : State) : State := s.modSc fun c => { c with fan := 0, purge := none }

def puffExpiry (s : State) : State := if timerAt s.sc.puff s.sc.puffLimit then puffExpire s else s
def burstExpiry (s : State) : State := if timerAt s.sc.burst 200 then burstExpire s else s
def purgeExpiry (s : State) : State := if timerAt s.sc.purge s.sc.purgeLimit then purgeExpire s else s

/-- The smoke timers count an effects tick, and those that reach their set time expire (R94, R95, R96). -/
def smokeTick (s : State) : State :=
  purgeExpiry (burstExpiry (puffExpiry (s.modSc fun c =>
    { c with puff := tickTimer c.puff, burst := tickTimer c.burst, purge := tickTimer c.purge })))

/-- A thermistor reading reaches the SC: T and the fault are formed, then the tests, then demand and duty (R89, R90,
R92). -/
def smokeReading (x : Nat) (s : State) : State :=
  formHeater (smokeTests (s.modSc fun c =>
    { c with temp := some (thermTemperature s x), thermFault := thermFaultOf x }))

/-- The heater cap that an allowance gives (R93). -/
def heaterCap (s : State) (allowance : Nat) : Nat := min 255 (255 * allowance / setting s 35)

/-- The Power Supervisor reports the heater allowance (R93). -/
def smokeAllowance (allowance : Nat) (s : State) : State :=
  formHeater (s.modSc fun c => { c with cap := heaterCap s allowance })

/-- The Settings Store applied a new Locomotive type (R97). -/
def smokeTypeChange (s : State) : State :=
  if isMotorType s then
    if s.sc.smoke = .ready then formFan (s.modSc fun c => { c with puff := none }) else s
  else
    s.modSc fun c => { c with burst := none, fan := if c.smoke = .ready then 0 else c.fan }

/-- The SC at the order to switch the outputs off (R98). -/
def smokeOff (s : State) : State :=
  s.modSc fun c => { c with duty := 0, fan := 0, puff := none, burst := none, purge := none }

end Sys2Proof.Machine
end

