-- ==== Sys2Proof/Machine/Replies.lean ====
section
/-! DEFINITION. Replies on the two links (R150 to R156): their frames, the Reply Queue with its credits, the reply slot
of the service link, and the telemetry timer. -/

namespace Sys2Proof.Machine

/-- The kind code of a reply (R149). -/
def ReplyBody.kind : ReplyBody → Nat
  | .ack _ => kindAck
  | .ackSet _ _ _ => kindAck
  | .ackIdentify _ _ _ _ => kindAck
  | .refused _ _ => kindRefused
  | .value _ _ => kindValue
  | .status => kindStatus

/-- The payload of a reply after its destination (R150); a STATUS takes its content from the state (R151). -/
def replyContent (s : State) : ReplyBody → List Nat
  | .ack k => [k]
  | .ackSet i v d => [kindSet] ++ wordBytes i ++ wordBytes v ++ [if d then 1 else 0]
  | .ackIdentify (maker, part, issue) loco project restart =>
    [kindIdentify] ++ wordBytes maker ++ wordBytes part ++ wordBytes issue ++ wordBytes loco ++ wordBytes project ++
      [restart]
  | .refused k r => [k, r.code]
  | .value i v => wordBytes i ++ wordBytes v
  | .status => statusContent s

/-- The frame of a reply whose sending begins now: Sender 63, the loco address as it stands, the destination first in
the payload (R150). -/
def replyFrame (s : State) (dest : Nat) (body : ReplyBody) : Frame :=
  ⟨body.kind, 63, locoAddress s, dest :: replyContent s body⟩

/-- RX_OVERRUN becomes absent when the content of a STATUS is taken (R147, R151). -/
def contentTaken (body : ReplyBody) (s : State) : State :=
  match body with
  | .status => s.modRadio fun b => { b with overrun := false }
  | .ack _ => s
  | .ackSet _ _ _ => s
  | .ackIdentify _ _ _ _ => s
  | .refused _ _ => s
  | .value _ _ => s

/-! ### The radio link -/

/-- The transmitter begins sending the head of the Reply Queue when it is IDLE and a credit is held (R154). -/
def trySend (s : State) : State :=
  match s.radio.sending, s.radio.replies with
  | none, p :: rest =>
    if 0 < s.radio.credits then
      contentTaken p.body
        (s.modRadio fun b =>
          { b with replies := rest, credits := b.credits - 1, sending := some (replyFrame s p.dest p.body) })
    else s
  | none, [] => s
  | some _, _ => s

/-- The oldest STATUS entry leaves the queue; none where the queue holds no STATUS (R153). -/
def dropStatus : List Reply → Option (List Reply)
  | [] => none
  | p :: q => if p.body = .status then some q else (dropStatus q).map (p :: ·)

/-- The Reply Queue after a reply joins it (R153). -/
def joinReplies (p : Reply) (q : List Reply) : List Reply :=
  if p.body = .status then
    if q.any (fun e => decide (e.body = .status) && e.dest == p.dest) then q
    else if q.length < 8 then q ++ [p]
    else q
  else if q.length < 8 then q ++ [p]
  else
    match dropStatus q with
    | some q' => q' ++ [p]
    | none => q

/-- A reply to a throttle joins the Reply Queue, and the transmitter tests whether it may send (R153, R154). -/
def queueReply (dest : Nat) (body : ReplyBody) (s : State) : State :=
  trySend (s.modRadio fun b => { b with replies := joinReplies ⟨dest, body⟩ b.replies })

/-- A STATUS is queued to the Driver, if the Control Table holds one (R40, R155). -/
def statusToDriver (s : State) : State :=
  match driverEntry s with
  | some e => queueReply e.id .status s
  | none => s

/-- A radio reply's last character has been sent (R154). -/
def replySent (s : State) : State :=
  match s.radio.sending with
  | some _ => trySend (s.modRadio fun b => { b with sending := none })
  | none => s

/-- The taking of a CREDIT (R152). -/
def takeCredit (n : Nat) (s : State) : State :=
  trySend (s.modRadio fun b => { b with credits := min 15 (b.credits + n) })

/-! ### The telemetry timer (R155) -/

/-- The Control Table gained a Driver or changed to a different one, or an interval came while the timer was idle: the
timer starts from 0 unless the interval is 0 (R155). -/
def telemetryStart (s : State) : State :=
  s.modRadio fun b => { b with telemetry := if setting s 53 = 0 then none else some 0 }

/-- The timer goes idle (R155). -/
def telemetryStop (s : State) : State := s.modRadio fun b => { b with telemetry := none }

/-- The timer expires: a STATUS to the Driver is queued, and the timer restarts from 0 (R155). -/
def telemetryExpire (s : State) : State := statusToDriver (s.modRadio fun b => { b with telemetry := some 0 })

/-- The timer runs and has reached the interval. -/
def telemetryDue (s : State) : Bool := timerAt s.radio.telemetry (setting s 53)

def telemetryExpiry (s : State) : State := if telemetryDue s then telemetryExpire s else s

/-- A new Telemetry interval is applied (R155). -/
def telemetryChange (s : State) : State :=
  if setting s 53 = 0 then telemetryStop s
  else
    match s.radio.telemetry, driverEntry s with
    | none, some _ => telemetryStart s
    | none, none => s
    | some _, _ => s

/-! ### The service link (R156) -/

/-- A reply is put in the reply slot and sent at once (R156). -/
def serviceSend (body : ReplyBody) (s : State) : State :=
  contentTaken body
    (s.modService fun b => { b with link := .replying, reply := some (replyFrame s 62 body) })

/-- What the link does when no reply is left to send: a BUSY owed is sent, or the link becomes IDLE (R156). -/
def serviceNext (s : State) : State :=
  match s.service.busyOwed with
  | some k => serviceSend (.refused k .busy) (s.modService fun b => { b with busyOwed := none })
  | none => s.modService fun b => { b with link := .idle, reply := none }

/-- A service reply's last character has been sent (R156). -/
def serviceReplySent (s : State) : State :=
  match s.service.reply with
  | some _ => serviceNext (s.modService fun b => { b with reply := none })
  | none => s

/-- A reply to the source of a request: through the Reply Queue or the reply slot. -/
def answer (source : Source) (body : ReplyBody) (s : State) : State :=
  match source with
  | .throttle sender _ => queueReply sender body s
  | .setupTool => serviceSend body s

end Sys2Proof.Machine
end

