-- ==== Sys2Proof/Machine/SpeedLaw.lean ====
section
/-! DEFINITION. The Speed Law Unit's own operations (chapter 1): the effective target, the run permit and the
arithmetic of the momentum ramp. -/

namespace Sys2Proof.Machine

/-! ### From target step to effective target (section 1.2) -/

/-- Speed Curve point Pk. -/
def curvePoint (s : State) (k : Nat) : Nat := setting s (64 + k)

/-- The curve value T_c of a target step of 1 or more (R3). -/
def curveValue (s : State) (n : Nat) : Nat :=
  let k := n / 8
  if k = 14 then curvePoint s 14
  else
    let d : Int := (curvePoint s (k + 1) : Int) - (curvePoint s k : Int)
    ((curvePoint s k : Int) + truncDiv (d * ((n % 8 : Nat) : Int)) 8).toNat

/-- The trim of the requested direction (R4). -/
def trim (s : State) : Nat :=
  match s.ct.requested with
  | .fwd => setting s 8
  | .rev => setting s 9

/-- The trimmed value T_t (R4). -/
def trimmedValue (s : State) (tc : Nat) : Nat := min 1023 (tc * trim s / 128)

/-- The modified value T_s (R5). -/
def modifiedValue (s : State) (tt : Nat) : Nat := if s.fe.shunt then tt / 2 else tt

/-- A reversal is pending: the directions differ and R is above 0 (R6). -/
def reversalPending (s : State) : Bool := s.ct.requested != s.slu.travel && 0 < s.slu.r

/-- One of the conditions of R6 forces T_eff to 0. -/
def forcedToZero (s : State) : Bool :=
  s.ct.target == 0 || s.ct.latch.held || s.ml.fault || s.slu.permit == .withheld || s.slu.permit == .holding ||
    reversalPending s

/-- The effective target of the inputs as they stand (R2 to R6). -/
def effectiveTarget (s : State) : Nat :=
  if forcedToZero s then 0 else modifiedValue s (trimmedValue s (curveValue s s.ct.target))

/-- The SLU recomputes T_eff (R2). -/
def recompute (s : State) : State := s.modSlu fun u => { u with tEff := effectiveTarget s }

/-! ### Run permit (section 1.3) -/

/-- The hold-off timer expires (R9). -/
def holdOffExpire (s : State) : State :=
  recompute (s.modSlu fun u => { u with permit := .granted, holdOff := none })

/-- The hold-off timer runs and has reached its setting (R9). -/
def holdOffDue (s : State) : Bool := timerAt s.slu.holdOff (setting s 10)

def holdOffExpiry (s : State) : State := if holdOffDue s then holdOffExpire s else s

/-- The permit becomes granted (R8): ENGINE_START goes to the Sound Engine and to the Smoke Controller, the hold-off
starts, and a hold-off setting of 0 expires at once. -/
def permitGrant (s : State) : State :=
  let s := smokeEngineStart (raiseCue .engineStart none s)
  holdOffExpiry (recompute (s.modSlu fun u => { u with permit := .holding, holdOff := some 0 }))

/-- The permit stops being granted while it is still required (R10). -/
def permitWithdraw (s : State) : State :=
  recompute ((raiseCue .engineStop none s).modSlu fun u => { u with permit := .withheld, holdOff := none })

/-- The permit is required and not granted, or no longer required: the state that R7 gives, with no cue. -/
def permitSettle (required : Bool) (s : State) : State :=
  recompute (s.modSlu fun u =>
    { u with permit := if required then .withheld else .notRequired, holdOff := none })

/-- The Function Mapper reports a change of the run-permit inputs (R7, R8, R10). -/
def permitReport (oldGranted required granted : Bool) (s : State) : State :=
  if required && granted then (if oldGranted then s else permitGrant s)
  else if required then (if oldGranted then permitWithdraw s else permitSettle true s)
  else permitSettle false s

/-! ### The momentum ramp (section 1.4) -/

/-- The rate N that a ramp tick chooses (R11). -/
def rampRate (s : State) : Nat :=
  if s.slu.r < s.slu.tEff then setting s 5 else if s.fe.brake then setting s 7 else setting s 6

/-- R and F after a ramp tick that is not frozen (R12, R13). -/
def rampStep (r f tEff rate : Nat) (momentumOff : Bool) : Nat × Nat :=
  if r = tEff then (r, 0)
  else if momentumOff || rate == 0 then (tEff, 0)
  else
    let f' := f + rate % 16
    let carry := 16 ≤ f'
    let step := rate / 16 + (if carry then 1 else 0)
    let f'' := if carry then f' - 16 else f'
    let r' := if r < tEff then min tEff (r + step) else max tEff (r - step)
    (r', if r' = tEff then 0 else f'')

/-- R is frozen (R14). -/
def rampFrozen (s : State) : Bool := s.ps.power == .coasting || s.ps.power == .down

end Sys2Proof.Machine
end

