-- ==== Sys2Proof/Machine/FunctionMap.lean ====
section
/-! DEFINITION. The Function Mapper and Effect Generators (chapter 4): the map and its evaluation, the light generators,
the final brightness and the light current estimate. -/

namespace Sys2Proof.Machine

/-! ### Map entries (R67, R68) -/

def mapFunction (s : State) (e : Fin 24) : Nat := setting s (256 + 4 * e.val)
def mapConditions (s : State) (e : Fin 24) : Nat := setting s (257 + 4 * e.val)
def mapTarget (s : State) (e : Fin 24) : Nat := setting s (258 + 4 * e.val)
def mapArgument (s : State) (e : Fin 24) : Nat := setting s (259 + 4 * e.val)

/-- Target values of R67; LIGHT k is k + 1. -/
def targetSound : Nat := 9
def targetSmoke : Nat := 10
def targetShunt : Nat := 11
def targetBrake : Nat := 12
def targetMomentumOff : Nat := 13
def targetRunPermit : Nat := 14
def targetDimmer : Nat := 15
def targetMute : Nat := 16

/-- The map entries in number order. -/
def allEntries : List (Fin 24) := List.finRange 24

/-- The entry's function is ALWAYS, or the function it names is ON (R68, item 2). -/
def entryFunctionOn (s : State) (e : Fin 24) : Bool :=
  mapFunction s e == 32 || functionOn s (mapFunction s e)

/-- The direction, motion and role conditions of an entry (R68, items 3 to 5). -/
def entryConditions (s : State) (e : Fin 24) : Bool :=
  let c := mapConditions s e
  let d := c % 3
  let m := c / 3 % 3
  let r := c / 9
  (d == 0 || (d == 1 && s.slu.travel == .fwd) || (d == 2 && s.slu.travel == .rev)) &&
    ((m == 0 || (m == 1 && s.slu.r == 0) || (m == 2 && 0 < s.slu.r)) &&
      (r == 0 || (r == 1 && consistRole s == .lead) || (r == 2 && consistRole s == .trail)))

/-- An entry is active (R68). -/
def entryActive (s : State) (e : Fin 24) : Bool :=
  mapTarget s e != 0 && (entryFunctionOn s e && entryConditions s e)

/-- At least one entry that the last evaluation found active has the target (R71). -/
def anyActive (s : State) (target : Nat) : Bool :=
  allEntries.any fun e => s.fe.active[e] && mapTarget s e == target

/-- At least one entry has target RUN_PERMIT (R72). -/
def permitRequiredNow (s : State) : Bool := allEntries.any fun e => mapTarget s e == targetRunPermit

/-- At least one entry with target RUN_PERMIT has Function 32 or names a function that is ON (R72). -/
def permitGrantedNow (s : State) : Bool :=
  allEntries.any fun e => mapTarget s e == targetRunPermit && entryFunctionOn s e

/-! ### Profiles and waveforms (section 4.4) -/

/-- Waveform codes of R75. -/
def waveSteady : Nat := 0
def waveBlink : Nat := 1
def waveStrobe : Nat := 2
def waveDouble : Nat := 3
def waveFlicker : Nat := 4
def waveFade : Nat := 5

/-- The profile that an entry's Argument names (R67). -/
def entryProfile (s : State) (e : Fin 24) : Nat := mapArgument s e % 8

/-- Phase invert is present in an entry's Argument (R67). -/
def entryInverted (s : State) (e : Fin 24) : Bool := mapArgument s e / 8 % 2 == 1

def waveform (s : State) (p : Nat) : Nat := setting s (176 + 6 * p)
def highTime (s : State) (p : Nat) : Nat := setting s (179 + 6 * p)
def lowTime (s : State) (p : Nat) : Nat := setting s (180 + 6 * p)
def fadeRate (s : State) (p : Nat) : Nat := setting s (181 + 6 * p) % 256
def isOneShot (s : State) (p : Nat) : Bool := 256 ≤ setting s (181 + 6 * p)

/-- The level b: the bright level, or the dim level while DIMMER is active (R76, R83). -/
def litLevel (s : State) (p : Nat) : Nat := if s.fe.dimmer then setting s (178 + 6 * p) else setting s (177 + 6 * p)

/-- The period P of a waveform that has one (R75). -/
def period (s : State) (p : Nat) : Nat :=
  let w := waveform s p
  let hl := highTime s p + lowTime s p
  if w = waveSteady then max 1 (highTime s p)
  else if w = waveBlink then max 1 hl
  else if w = waveStrobe then max 2 hl
  else if w = waveDouble then max 8 hl
  else max 3 hl

/-- The waveform value of STEADY, BLINK, STROBE and DOUBLE at a position (R76, R77). -/
def shapeValue (s : State) (p q : Nat) : Nat :=
  let w := waveform s p
  let lit :=
    if w = waveSteady then true
    else if w = waveBlink then q < highTime s p
    else if w = waveStrobe then q < 2
    else q == 0 || q == 1 || q == 6 || q == 7
  if lit then litLevel s p else 0

/-- One step of the noise register (R78). -/
def noiseStep (n : BitVec 16) : BitVec 16 := if n.getLsbD 0 then (n >>> 1) ^^^ 0xB400#16 else n >>> 1

/-- The FLICKER value that a register content gives for a level (R78). -/
def flickerValue (b : Nat) (n : BitVec 16) : Nat :=
  (clampInt ((b : Int) - 64 + ((n.toNat % 256 % 128 : Nat) : Int)) 0 255).toNat

/-- A level moves toward another by the fade rate, stopping there; a rate of 0 goes the whole distance (R79). -/
def fadeToward (level goal rate : Nat) : Nat :=
  if rate = 0 then goal else if level < goal then min goal (level + rate) else max goal (level - rate)

/-- The light outputs in number order, LT0 first. -/
def allOutputs : List (Fin 8) := [0, 1, 2, 3, 4, 5, 6, 7]

def setGen (k : Fin 8) (g : Gen) (s : State) : State := s.modFe fun b => { b with gens := b.gens.set k g }

/-- The start position of a generator driven by an entry (R75, R80): with phase invert H, where the waveform then runs on to
its wrap at P. DESIGN CHOICE: for STROBE and DOUBLE the first flash then comes P - H ticks after the restart, where R80
also says H ticks; the two differ when H is not L (assumption 32). -/
def startPosition (s : State) (e : Fin 24) : Nat :=
  let p := entryProfile s e
  let w := waveform s p
  if entryInverted s e && (w == waveBlink || w == waveStrobe || w == waveDouble) && highTime s p < period s p then
    highTime s p
  else 0

/-- A generator restarts under a driving entry, and forms its value at once (R75, R78, R79). -/
def restartGen (k : Fin 8) (e : Fin 24) (s : State) : State :=
  let p := entryProfile s e
  let q := startPosition s e
  let old := s.fe.gens[k]
  if waveform s p = waveFade then setGen k ⟨some e, .running, 0, 0, 0, 0, 0, old.brightness⟩ s
  else if waveform s p = waveFlicker then
    let n := noiseStep s.fe.noise
    setGen k ⟨some e, .running, q, 0, 2, 0, flickerValue (litLevel s p) n, old.brightness⟩
      (s.modFe fun b => { b with noise := n })
  else setGen k ⟨some e, .running, q, 0, 0, 0, shapeValue s p q, old.brightness⟩ s

/-- A FLICKER generator forms a new value and sets its countdown to 2 (R78). -/
def flickerForm (k : Fin 8) (p : Nat) (s : State) : State :=
  let n := noiseStep s.fe.noise
  setGen k { s.fe.gens[k] with countdown := 2, value := flickerValue (litLevel s p) n }
    (s.modFe fun b => { b with noise := n })

/-! ### Winners (R73, R74) -/

/-- The entry was found active by the last evaluation, and its target is output `k`. -/
def drives (s : State) (e : Fin 24) (k : Fin 8) : Bool := s.fe.active[e] && mapTarget s e == k.val + 1

/-- The winner of an output: the active entry of lowest number whose target it is (R73). -/
def winner (s : State) (k : Fin 8) : Option (Fin 24) := allEntries.find? fun e => drives s e k

/-- The output goes to its winner, whose generator restarts, or to DARK (R73, R74). -/
def giveToWinner (k : Fin 8) (s : State) : State :=
  match winner s k with
  | some e => restartGen k e s
  | none => setGen k { Gen.off with brightness := s.fe.gens[k].brightness } s

/-- A FADING_OUT generator at an evaluation (R74): it stays as it is while its driving entry is inactive, runs again from
its level under that entry, or goes to another winner. Two points are settled by the model (assumption 33): where the
driving entry is active again for another target and the output has no winner, it fades on (DESIGN CHOICE); where the
entry's profile was just changed, `changed`, the generator restarts, as the second consequence of R69 has it
(DEDUCED). -/
def judgeFading (changed : Option (Fin 24)) (k : Fin 8) (d : Fin 24) (s : State) : State :=
  if s.fe.active[d] = false ∨ winner s k = none then s
  else if winner s k = some d ∧ changed ≠ some d then setGen k { s.fe.gens[k] with st := .running } s
  else giveToWinner k s

/-- A RUNNING or DONE generator at an evaluation (R73). -/
def judgeDriven (k : Fin 8) (d : Fin 24) (s : State) : State :=
  let g := s.fe.gens[k]
  if winner s k = some d then s
  else if g.st = .running ∧ waveform s (entryProfile s d) = waveFade ∧ s.fe.active[d] = false then
    setGen k { g with st := .fadingOut } s
  else giveToWinner k s

/-- What an evaluation does to output `k` (R73, R74); `changed` is the entry whose profile was just changed (R69). -/
def judgeOutput (changed : Option (Fin 24)) (s : State) (k : Fin 8) : State :=
  let g := s.fe.gens[k]
  match g.driving with
  | none => giveToWinner k s
  | some d =>
    match g.st with
    | .dark => giveToWinner k s
    | .running => judgeDriven k d s
    | .done => judgeDriven k d s
    | .fadingOut => judgeFading changed k d s

/-! ### Brightness and current estimate (R83, R84) -/

/-- The final brightness of a waveform value (R83). -/
def finalBrightness (s : State) (value : Nat) : Nat :=
  if s.ps.outputsOff then 0
  else
    match s.ps.power with
    | .normal => value
    | .bridging => value
    | .dimmed => value / 2
    | .coasting => value / 2
    | .down => value / 2

/-- The generators with every final brightness formed anew (R83). -/
def litGens (s : State) : Vector Gen 8 := s.fe.gens.map fun g => { g with brightness := finalBrightness s g.value }

/-- The light current estimate of the generators' final brightness (R84). -/
def lightSum (s : State) (gens : Vector Gen 8) : Nat :=
  (allOutputs.map fun k => gens[k].brightness * setting s (24 + k.val) / 255).foldl (· + ·) 0

/-- Every final brightness and the light current estimate are formed anew (R83, R84). -/
def refreshLights (s : State) : State :=
  let gens := litGens s
  s.modFe fun b => { b with gens := gens, lightEstimate := lightSum s gens }

/-! ### Evaluation (R69 to R72) -/

/-- The SOUND entry `e` became active or inactive (R70). -/
def soundChange (old new : Vector Bool 24) (s : State) (e : Fin 24) : State :=
  if mapTarget s e = targetSound ∧ old[e] ≠ new[e] then
    if new[e] then raiseDirect (.map e) (mapArgument s e) s else releaseEntry e s
  else s

/-- A lit STEADY or BLINK output takes the level of a changed DIMMER state in the same event (R83). -/
def dimmerOutput (s : State) (k : Fin 8) : State :=
  let g := s.fe.gens[k]
  match g.driving with
  | none => s
  | some e =>
    let p := entryProfile s e
    if g.st = .running ∧ (waveform s p = waveSteady ∨ waveform s p = waveBlink) then
      setGen k { g with value := shapeValue s p g.q } s
    else s

/-- The modifiers that act without a cue take their new states: SHUNT, MOMENTUM_OFF, DIMMER, and MUTE, which the Sound
Engine is told of (R71). -/
def formModifiers (s : State) : State :=
  let mute := anyActive s targetMute
  (s.modFe fun b =>
    { b with
      shunt := anyActive s targetShunt
      momentumOff := anyActive s targetMomentumOff
      mute := mute
      dimmer := anyActive s targetDimmer }).modSe fun b => { b with mute := mute }

/-- A changed SHUNT makes the Speed Law Unit recompute T_eff (R5, R71). -/
def shuntReport (old : Bool) (s : State) : State := if s.fe.shunt = old then s else recompute s

/-- A changed DIMMER acts on the light generators (R71, R83). -/
def dimmerReport (old : Bool) (s : State) : State :=
  if s.fe.dimmer = old then s else allOutputs.foldl dimmerOutput s

/-- The modifiers that act without a cue, and what their changes do (R71). -/
def quietReports (s : State) : State :=
  dimmerReport s.fe.dimmer (shuntReport s.fe.shunt (formModifiers s))

/-- The reports that can raise a cue: BRAKE, the smoke enable and the run permit; their order is open (R71, R72). With
`withPermit` false the run-permit inputs are not formed (the old fields of a changed entry, R69). -/
def cueReports (withPermit : Bool) (s : State) : State :=
  let brake := anyActive s targetBrake
  let smoke := anyActive s targetSmoke
  let required := if withPermit then permitRequiredNow s else s.fe.permitRequired
  let granted := if withPermit then permitGrantedNow s else s.fe.permitGranted
  let o := s.fe
  let s := s.modFe fun b =>
    { b with brake := brake, smokeEnable := smoke, permitRequired := required, permitGranted := granted }
  anyOrder
    (noticeIf (brake != o.brake && 0 < s.slu.r) (raiseCue (if brake then .brakeOn else .brakeOff) none) ++
      noticeIf (smoke != o.smokeEnable) (smokeEnableReport smoke) ++
      noticeIf (required != o.permitRequired || granted != o.permitGranted)
        (permitReport o.permitGranted required granted))
    s

/-- The entries take a new activity, with every effect of the changes (R70 to R74): the cues and RELEASEs of the SOUND
entries in entry order, the modifiers, the outputs under the new DIMMER state (R83), and the reports. DESIGN CHOICE: the
map's own cues and RELEASEs reach the Sound Engine before the cues that its reports bring about, BRAKE_ON, BRAKE_OFF,
SMOKE_DRY, ENGINE_START and ENGINE_STOP (assumption 31). -/
def takeActivity (new : Vector Bool 24) (withPermit : Bool) (changed : Option (Fin 24)) (s : State) : State :=
  let s := allEntries.foldl (soundChange s.fe.active new) s
  let s := quietReports (s.modFe fun b => { b with active := new })
  cueReports withPermit (refreshLights (allOutputs.foldl (judgeOutput changed) s))

/-- The FE evaluates the map after the profile of an entry was changed, or of none (R69). -/
def evaluateAfter (changed : Option (Fin 24)) (s : State) : State :=
  takeActivity (Vector.ofFn (entryActive s)) true changed s

/-- The FE evaluates the map (R69). -/
def evaluateMap (s : State) : State := evaluateAfter none s

/-- An active entry whose setting changes is first taken as inactive under its old fields (R69). -/
def retireEntry (e : Fin 24) (s : State) : State :=
  if s.fe.active[e] then takeActivity (s.fe.active.set e false) false none s else s

/-! ### The effects tick (R75, R78, R79, R81) -/

/-- The ONE_SHOT generator has run its period (R81). -/
def oneShotDue (s : State) (p run : Nat) : Bool :=
  isOneShot s p && waveform s p != waveFade && period s p ≤ run

/-- A RUNNING generator counts a tick (R75, R78, R79, R81). -/
def tickRunning (k : Fin 8) (p : Nat) (s : State) : State :=
  let g := s.fe.gens[k]
  let run := min 1000 (g.run + 1)
  if waveform s p = waveFade then
    let level := fadeToward g.fade (litLevel s p) (fadeRate s p)
    setGen k { g with run := run, fade := level, value := level } s
  else
    let q := if period s p ≤ g.q + 1 then 0 else g.q + 1
    if oneShotDue s p run then setGen k { g with run := run, q := q, st := .done, value := 0 } s
    else if waveform s p = waveFlicker then
      let s := setGen k { g with run := run, q := q } s
      if g.countdown = 0 then flickerForm k p s
      else setGen k { s.fe.gens[k] with countdown := g.countdown - 1 } s
    else setGen k { g with run := run, q := q, value := shapeValue s p q } s

/-- A FADING_OUT generator counts a tick; at 0 the fade-out ends (R74, R79). -/
def tickFading (k : Fin 8) (p : Nat) (s : State) : State :=
  let g := s.fe.gens[k]
  let level := fadeToward g.fade 0 (fadeRate s p)
  let s := setGen k { g with fade := level, value := level } s
  if level = 0 then giveToWinner k s else s

/-- One generator at an effects tick. -/
def tickGen (s : State) (k : Fin 8) : State :=
  let g := s.fe.gens[k]
  match g.driving with
  | none => s
  | some e =>
    match g.st with
    | .running => tickRunning k (entryProfile s e) s
    | .fadingOut => tickFading k (entryProfile s e) s
    | .dark => s
    | .done => s

/-- The effects tick: the generators in order of output number, then the smoke timers (R75, R78, R94 to R96); after the
order to switch the outputs off the generators do not count (R83). -/
def effectsTick (s : State) : State :=
  smokeTick (if s.ps.outputsOff then s else refreshLights (allOutputs.foldl tickGen s))

/-- A FLICKER generator whose countdown is 0 steps the register and forms a new value (R78). -/
def flickerUpdate (k : Fin 8) (s : State) : State :=
  let g := s.fe.gens[k]
  match g.driving with
  | none => s
  | some e =>
    if g.st = .running ∧ waveform s (entryProfile s e) = waveFlicker ∧ g.countdown = 0 ∧ s.ps.outputsOff = false then
      refreshLights (flickerForm k (entryProfile s e) s)
    else s

/-- A FADING_OUT generator whose level is 0 ends its fade-out (R74). -/
def fadeOutEnd (k : Fin 8) (s : State) : State :=
  let g := s.fe.gens[k]
  if g.st = .fadingOut ∧ g.fade = 0 ∧ s.ps.outputsOff = false then refreshLights (giveToWinner k s) else s

/-- A ONE_SHOT generator whose run count has reached its period enters DONE (R81). -/
def oneShotDone (k : Fin 8) (s : State) : State :=
  let g := s.fe.gens[k]
  match g.driving with
  | none => s
  | some e =>
    if g.st = .running ∧ oneShotDue s (entryProfile s e) g.run ∧ s.ps.outputsOff = false then
      refreshLights (setGen k { g with st := .done, value := 0 } s)
    else s

/-- A new waveform acts at once on a generator whose driving entry names the profile (R82). -/
def profileOutput (p : Nat) (s : State) (k : Fin 8) : State :=
  let g := s.fe.gens[k]
  match g.driving with
  | none => s
  | some e =>
    if entryProfile s e = p then
      match g.st with
      | .running => restartGen k e s
      | .done => restartGen k e s
      | .fadingOut => if waveform s p = waveFade then s else restartGen k e s
      | .dark => s
    else s

/-- A new waveform of profile `p` is applied (R82). -/
def waveformChange (p : Nat) (s : State) : State := refreshLights (allOutputs.foldl (profileOutput p) s)

end Sys2Proof.Machine
end

