-- ==== Sys2Proof/Machine/Persist.lean ====
section
/-! DEFINITION. The nonvolatile writes: the Persist Queue (R182), the DOWN save (R135), the writes of a pending restart
(R140, R141) and the default settings rewrite (R183). One write is in transfer at a time. -/

namespace Sys2Proof.Machine

/-! ### The Persist Queue (R182) -/

/-- The index has an entry in the queue. -/
def queued (q : List PersistEntry) (i : Nat) : Bool := q.any fun e => e.index == i

/-- The Persist Queue after a write is applied to index `i` (R182). -/
def persistJoin (i : Nat) (q : List PersistEntry) : List PersistEntry :=
  if queued q i then q.map fun e => if e.index = i ∧ e.inTransfer then { e with again := true } else e
  else q ++ [⟨i, false, false⟩]

/-- The queue has room: entries and reserved places are below 16 (R182). -/
def persistRoom (s : State) : Bool := s.ss.persist.length + s.ss.deferred.length < 16

/-- A SET applied at once finds its Persist Queue place (R177). -/
def placeFor (s : State) (i : Nat) : Bool := queued s.ss.persist i || persistRoom s

/-- The queue after the write of its entry in transfer has completed: the entry leaves, or with the again mark loses it
and moves to the tail (R182). -/
def persistDone (i : Nat) : List PersistEntry → List PersistEntry
  | [] => []
  | e :: q =>
    if e.index = i ∧ e.inTransfer then (if e.again then q ++ [⟨i, false, false⟩] else q) else e :: persistDone i q

/-- The head of the queue is marked as in transfer. -/
def markHead : List PersistEntry → List PersistEntry
  | [] => []
  | e :: q => { e with inTransfer := true } :: q

/-! ### Beginning a write -/

/-- A nonvolatile write begins. -/
def beginWrite (purpose : NvPurpose) (job : NvJob) (s : State) : State :=
  s.modNv fun n => { n with write := some (purpose, job) }

/-- The write of the oldest Persist Queue entry begins, with the working copy's value at that moment (R182, R135). -/
def beginPersist (purpose : NvPurpose) (i : Nat) (s : State) : State :=
  beginWrite purpose (.slot i (setting s i)) (s.modSs fun b => { b with persist := markHead b.persist })

/-- The Odometer's write begins, with the Odometer as it stands (R135, R140). -/
def beginOdometer (purpose : NvPurpose) (s : State) : State := beginWrite purpose (.odometer s.mt.odometer) s

/-- The next write that waits begins, when none is in transfer: of the save in its PERSIST stage (R135), of a pending
restart (R140, R141), of the rewrite (R183), or of the background persistence (R182). -/
def nextWrite (s : State) : State :=
  match s.nv.write with
  | some _ => s
  | none =>
    match s.ps.stage with
    | .persist =>
      match s.ss.persist with
      | e :: _ => beginPersist .save e.index s
      | [] => beginOdometer .save (s.modPs fun p => { p with stage := .odometer })
    | .odometer => s
    | .resume => s
    | .mark => s
    | .ended => s
    | .idle =>
      match s.ps.pendingRestart with
      | some _ =>
        match s.ss.persist with
        | e :: _ => beginPersist .pending e.index s
        | [] => beginOdometer .pending s
      | none =>
        match s.ss.rewrite with
        | some i => beginWrite .rewrite (.slot i (settingDefault i)) s
        | none =>
          match s.ss.persist with
          | e :: _ => beginPersist .background e.index s
          | [] => s

/-! ### Completing a write -/

/-- What a completed write leaves in the nonvolatile store (R127). -/
def NvJob.land : NvJob → Nv → Nv
  | .slot i v, n => { n with slots := n.slots.write i v }
  | .odometer v, n => { n with odometer := v }
  | .record c, n => { n with record := c }
  | .mark, n => { n with markPresent := true }
  | .clearMark, n => { n with markPresent := false }

/-- The write in transfer completes: its slot holds the new value, and no write is in transfer. -/
def landWrite (job : NvJob) (s : State) : State := s.modNv fun n => { job.land n with write := none }

/-- The Persist Queue after a slot write of one of its entries has completed. -/
def persistLanded (job : NvJob) (s : State) : State :=
  match job with
  | .slot i _ => s.modSs fun b => { b with persist := persistDone i b.persist }
  | .odometer _ => s
  | .record _ => s
  | .mark => s
  | .clearMark => s

/-- A background persist write completes (R182); in DOWN or under a pending restart the next write is theirs (R135,
R140). -/
def persistWriteDone (s : State) : State :=
  match s.nv.write with
  | some (.background, job) => nextWrite (persistLanded job (landWrite job s))
  | some (.rewrite, _) => s
  | some (.pending, _) => s
  | some (.save, _) => s
  | some (.restart, _) => s
  | none => s

/-- The rewrite has ended: the pending restart becomes DEFAULTS and writes are stopped (R141). -/
def rewriteEnded (s : State) : State :=
  (s.modSs fun b => { b with rewrite := none, writeStop := true }).modPs fun p =>
    { p with pendingRestart := some .defaults }

/-- The rewrite moves on to the next slot in rising index order, or ends (R183). -/
def rewriteAdvance (s : State) : State :=
  match s.ss.rewrite with
  | none => s
  | some i =>
    match nextSlot i with
    | some j => s.modSs fun b => { b with rewrite := some j }
    | none => rewriteEnded s

/-- A rewrite write completes (R183). -/
def rewriteWriteDone (s : State) : State :=
  match s.nv.write with
  | some (.rewrite, job) => nextWrite (rewriteAdvance (landWrite job s))
  | some (.background, _) => s
  | some (.pending, _) => s
  | some (.save, _) => s
  | some (.restart, _) => s
  | none => s

/-- The contents of the Resume Record as they stand (R135): a MOMENTARY function is recorded OFF. -/
def resumeContents (s : State) : ResumeRecord where
  target := s.ct.target
  requested := s.ct.requested
  functions := Vector.ofFn fun n : Fin 32 => functionOn s n.val && !isMomentary s n.val
  driver :=
    match driverEntry s with
    | some e =>
      match e.role with
      | .driver scope _ => some (e.id, scope)
      | .watcher => none
    | none => none
  consist := consistAddress s
  orientation := consistOrientation s
  role := formRole s

end Sys2Proof.Machine
end

