-- ==== Sys2Proof/Machine/Entries.lean ====
section
/-! DEFINITION. The Control Table's entries and functions (chapter 9): hearing, ageing, the Driver's coming and going,
function states. -/

namespace Sys2Proof.Machine

/-! ### Functions (R65, R66) -/

/-- A function takes a state; a change goes to the Function Mapper, which evaluates the map at once (R66, R69). -/
def setFunction (n : Fin 32) (on : Bool) (s : State) : State :=
  if s.ct.functions[n] = on then s
  else evaluateMap (s.modCt fun c => { c with functions := c.functions.set n on })

/-- Every MOMENTARY function that is ON becomes OFF, in rising function number (R65; assumption 16). -/
def momentaryOff (s : State) : State :=
  (List.finRange 32).foldl (fun s n => if isMomentary s n.val then setFunction n false s else s) s

/-- What a FUNC action makes of a function's state (R66). -/
def actionResult (action : FuncAction) (momentary on : Bool) : Bool :=
  match action with
  | .set => true
  | .clear => false
  | .press => if momentary then true else !on
  | .release => if momentary then false else on

/-! ### Entries (R159, R160) -/

/-- The entry's heard age is 0, and its LOST mark is removed (R159, R168). -/
def Entry.heard (e : Entry) : Entry :=
  { e with
    age := 0
    role :=
      match e.role with
      | .driver scope _ => .driver scope false
      | .watcher => .watcher }

/-- The first WATCHER entry, the one heard least recently, is removed (R159). -/
def dropWatcher : List Entry → List Entry
  | [] => []
  | e :: es => if e.isDriver then e :: dropWatcher es else es

/-- The entries after a throttle is heard (R159): its entry moves to the most recent place, or a WATCHER entry is created
there, for which a full table gives up its least recently heard WATCHER. -/
def hearEntries (id : Nat) (es : List Entry) : List Entry :=
  match es.find? (fun e => e.id == id) with
  | some e => es.filter (fun x => x.id != id) ++ [e.heard]
  | none => (if es.length < 4 then es else dropWatcher es) ++ [⟨id, .watcher, 0⟩]

/-- A throttle is heard (R159). -/
def hear (id : Nat) (s : State) : State := s.modCt fun c => { c with entries := hearEntries id c.entries }

/-- The heard age of every entry rises by 1, up to 600 (R160). -/
def ageEntries (es : List Entry) : List Entry := es.map fun e => { e with age := min 600 (e.age + 1) }

/-- WATCHER entries whose heard age is 600 are removed (R160). -/
def watchersAgedOut (es : List Entry) : List Entry := es.filter fun e => e.isDriver || e.age < 600

def watcherAgeOut (s : State) : State := s.modCt fun c => { c with entries := watchersAgedOut c.entries }

/-! ### The Driver (R161 to R163) -/

/-- The sender has the DRIVER entry. -/
def isDriver (s : State) (id : Nat) : Bool :=
  match driverEntry s with
  | some e => e.id == id
  | none => false

/-- The scope of the DRIVER entry. -/
def driverScope (s : State) : Option Scope :=
  match driverEntry s with
  | some e =>
    match e.role with
    | .driver scope _ => some scope
    | .watcher => none
  | none => none

/-- The DRIVER is LOST. -/
def driverLost (s : State) : Bool :=
  match driverEntry s with
  | some e =>
    match e.role with
    | .driver _ lost => lost
    | .watcher => false
  | none => false

/-- The address of a scope (chapter 9). -/
def scopeAddress (s : State) : Scope → Nat
  | .loco => locoAddress s
  | .consist => consistAddress s

/-- The Address is that of the Driver's scope, and the sender is the Driver (R164, R166, R167). -/
def atDriverScope (s : State) (sender address : Nat) : Bool :=
  isDriver s sender &&
    match driverScope s with
    | some scope => address == scopeAddress s scope
    | none => false

/-- The scope that a CLAIM's Address names (R161). -/
def claimScope (s : State) (address : Nat) : Scope := if address = locoAddress s then .loco else .consist

/-- The entry of a throttle takes a role. -/
def setRole (id : Nat) (role : Role) (s : State) : State :=
  s.modCt fun c => { c with entries := c.entries.map fun e => if e.id = id then { e with role := role } else e }

/-- The DRIVER entry, if there is one, becomes a WATCHER. -/
def demoteDriver (s : State) : State :=
  s.modCt fun c =>
    { c with entries := c.entries.map fun e => if e.isDriver then { e with role := .watcher } else e }

/-- A STATUS is queued to the Driver that was demoted, if there was one (R162, step 1; R172). -/
def tellDisplaced (old : Option Entry) (s : State) : State :=
  match old with
  | some e => queueReply e.id .status s
  | none => s

/-- The Driver is dropped because its scope's address has changed (R172). -/
def dropDriver (s : State) : State :=
  match driverEntry s with
  | some e => telemetryStop (momentaryOff (tellDisplaced (some e) (demoteDriver s)))
  | none => s

/-- The claimant takes the DRIVER entry from the Driver there was, if any (R162, steps 1 and 2). -/
def takeOver (id : Nat) (scope : Scope) (s : State) : State := setRole id (.driver scope false) (demoteDriver s)

/-- A throttle becomes the DRIVER (R162, steps 1 to 5). DEDUCED: the displaced Driver's STATUS joins the queue when both
roles have changed, so that it names the new Driver even where its sending begins at once (assumption 42). -/
def becomeDriver (id : Nat) (scope : Scope) (s : State) : State :=
  let told := tellDisplaced (driverEntry s) (takeOver id scope s)
  telemetryStart (raiseCue .claimed none (momentaryOff told))

/-- The DRIVER entry is marked LOST (R168). -/
def markLost (s : State) : State :=
  s.modCt fun c =>
    { c with entries := c.entries.map fun e =>
        match e.role with
        | .driver scope _ => { e with role := .driver scope true }
        | .watcher => e }

/-- The target step takes a value, and T_eff is recomputed (R2, R165). -/
def setTarget (n : Nat) (s : State) : State := recompute (s.modCt fun c => { c with target := n })

/-! ### Addresses and consist settings (R172) -/

/-- The address of the Driver's scope differs from what it was. -/
def scopeMoved (s : State) (oldLoco oldConsist : Nat) : Bool :=
  match driverScope s with
  | some .loco => locoAddress s != oldLoco
  | some .consist => consistAddress s != oldConsist
  | none => false

/-- A Driver whose scope's address changed is dropped (R172). -/
def dropMoved (oldLoco oldConsist : Nat) (s : State) : State :=
  if scopeMoved s oldLoco oldConsist then dropDriver s else s

/-- A consist address that became 0 from a value above 0 clears the target step (R172). -/
def clearTarget (oldConsist : Nat) (s : State) : State :=
  if oldConsist ≠ 0 ∧ consistAddress s = 0 then setTarget 0 s else s

/-- The Function Mapper is told of a changed consist role (R69, R172). -/
def roleReport (oldRole : ConsistRole) (s : State) : State := if consistRole s = oldRole then s else evaluateMap s

/-- The Control Table after the loco address, the consist address or the Consist form took new values (R172). DESIGN
CHOICE: its three actions are taken in the rule's own order, so a STATUS that a dropped Driver is sent at once carries the
target as it was before the clearing (assumption 40). -/
def addressChange (oldLoco oldConsist : Nat) (oldRole : ConsistRole) (s : State) : State :=
  roleReport oldRole (clearTarget oldConsist (dropMoved oldLoco oldConsist s))

end Sys2Proof.Machine
end

