-- ==== Sys2Proof/Machine/Settings.lean ====
section
/-! DEFINITION. The Settings Store (chapter 10): applying a write and telling the owner of the setting, the Deferred
List. -/

namespace Sys2Proof.Machine

/-! ### What the owners do at an application -/

/-- A new Quantum Q (R51). -/
def quantumChange (s : State) : State :=
  if setting s 16 ≤ s.mt.pa then s.modMt fun m => { m with pa := 0 } else s

/-- A new Chuffs per revolution C (R51). -/
def chuffsChange (s : State) : State :=
  if setting s 17 ≤ s.mt.chuff then s.modMt fun m => { m with chuff := 0 } else s

/-- A new Chuff source (R56). DESIGN CHOICE (assumption 46): a pulse accepted since the previous gap end still counts as one
for R54. -/
def sourceChange (s : State) : State :=
  s.modMt fun m =>
    { m with
      source := if setting s 18 = 1 then .sensor else .synth
      pa := 0
      fallback := false
      silent := 0 }

/-- A new kind of function `n` (R65): ON and now MOMENTARY with no Driver that is not LOST, it turns OFF. -/
def kindChange (n : Nat) (s : State) : State :=
  if h : n < 32 then
    if isMomentary s n ∧ (driverEntry s = none ∨ driverLost s) then setFunction ⟨n, h⟩ false s else s
  else s

/-- The map entry whose profile a value `v` of index `i` changes, or none: a new Argument that differs mod 8 (R67, R69). -/
def profileChanged (s : State) (i v : Nat) : Option (Fin 24) :=
  if h : 256 ≤ i ∧ i ≤ 351 then
    if i % 4 = 3 ∧ setting s i % 8 ≠ v % 8 then some ⟨(i - 256) / 4, by omega⟩ else none
  else none

/-- The owner of index `i` acts on the new value, which differs from the old one; the working copy holds it already
(R179 and the owners' chapters). The entry whose profile the value changes is `changed`. -/
def ownerActs (i oldLoco oldConsist : Nat) (oldRole : ConsistRole) (changed : Option (Fin 24)) (s : State) : State :=
  if i = 1 ∨ i = 2 ∨ i = 3 then addressChange oldLoco oldConsist oldRole s
  else if i = 8 ∨ i = 9 ∨ (64 ≤ i ∧ i ≤ 78) then recompute s
  else if i = 10 then holdOffExpiry s
  else if i = 16 then quantumChange s
  else if i = 17 then chuffsChange s
  else if i = 18 then sourceChange s
  else if i = 19 then smokeTypeChange s
  else if 24 ≤ i ∧ i ≤ 31 then refreshLights s
  else if i = 32 ∨ i = 34 then formHeater s
  else if i = 39 ∨ i = 40 then formFan s
  else if i = 53 then telemetryChange s
  else if 96 ≤ i ∧ i ≤ 127 then kindChange (i - 96) s
  else if 176 ≤ i ∧ i ≤ 223 ∧ (i - 176) % 6 = 0 then waveformChange ((i - 176) / 6) s
  else if 256 ≤ i ∧ i ≤ 351 then evaluateAfter changed s
  else s

/-- What happens under the old value before a map setting changes: an active entry is taken as inactive (R69). -/
def beforeChange (i : Nat) (s : State) : State :=
  if h : 256 ≤ i ∧ i ≤ 351 then retireEntry ⟨(i - 256) / 4, by omega⟩ s else s

/-- The working copy of index `i` takes the value `v` and the owner acts; a value equal to the one held is no change for
the owner (R179). -/
def changeSetting (i v : Nat) (s : State) : State :=
  if setting s i = v then s
  else
    let oldLoco := locoAddress s
    let oldConsist := consistAddress s
    let oldRole := consistRole s
    ownerActs i oldLoco oldConsist oldRole (profileChanged s i v) (storeSetting i v (beforeChange i s))

/-- Index `i` gets its place in the Persist Queue (R179, R182). -/
def persist (i : Nat) (s : State) : State :=
  nextWrite (s.modSs fun b => { b with persist := persistJoin i b.persist })

/-- A write is applied (R179). -/
def applySetting (i v : Nat) (s : State) : State := persist i (changeSetting i v s)

/-! ### The Deferred List (R180, R181) -/

/-- The index has an entry in the list. -/
def deferredHas (l : List (Nat × Nat)) (i : Nat) : Bool := l.any fun e => e.1 == i

/-- The Deferred List after a deferred write (R180): the entry's value is replaced in place, or a new entry joins. -/
def deferredJoin (i v : Nat) (l : List (Nat × Nat)) : List (Nat × Nat) :=
  if deferredHas l i then l.map fun e => if e.1 = i then (i, v) else e else l ++ [(i, v)]

/-- The entries of a list are applied in list order (R181). -/
def applyAll (l : List (Nat × Nat)) (s : State) : State := l.foldl (fun s e => applySetting e.1 e.2 s) s

/-- R has reached 0: the whole Deferred List is applied, and is empty afterwards (R181). -/
def applyDeferred (s : State) : State :=
  applyAll s.ss.deferred (s.modSs fun b => { b with deferred := [] })

/-- The Deferred List is discarded (R181). -/
def discardDeferred (s : State) : State := s.modSs fun b => { b with deferred := [] }

/-! ### Consist join and leave (R173, R174, R179) -/

/-- The Settings Store can apply a write to indices 2 and 3 at this moment (R179). -/
def canApplyConsist (s : State) : Bool :=
  let need := (if queued s.ss.persist 2 then 0 else 1) + (if queued s.ss.persist 3 then 0 else 1)
  !s.ss.writeStop && s.ss.rewrite.isNone && s.ss.persist.length + s.ss.deferred.length + need ≤ 16

/-- A join or leave applies the consist address and the Consist form at once; then R172 acts on the changes (R173,
R174; assumption 17). -/
def applyConsist (address form : Nat) (s : State) : State :=
  let oldLoco := locoAddress s
  let oldConsist := consistAddress s
  let oldRole := consistRole s
  let s := storeSetting 3 form (storeSetting 2 address s)
  persist 3 (persist 2 (addressChange oldLoco oldConsist oldRole s))

end Sys2Proof.Machine
end

