-- ==== Sys2Proof/Machine/Motor.lean ====
section
/-! DEFINITION. The Motor Loop (chapter 2): the speed loop, the bridge states, the current limit, trips and the Motor
Fault latch. -/

namespace Sys2Proof.Machine

/-! ### The speed loop (section 2.3) -/

/-- The measured speed of a median (R26). -/
def measuredSpeed (s : State) (median : Nat) : Nat := min 1023 (median * setting s 14 / 256)

/-- The shed cap (R29). -/
def shedCap (s : State) : Nat := if s.ps.power = .coasting ∨ s.ps.power = .down then 0 else 1023

/-- The duty limit Dlim (R29). -/
def dutyLimit (s : State) : Nat := min (min 1023 s.ml.dcap) (shedCap s)

/-- The speed error e = R - M (R28). -/
def speedError (s : State) : Int := (s.slu.r : Int) - (s.ml.m : Int)

/-- The candidate integral I16new (R28). -/
def integralNew (s : State) : Int :=
  clampInt (s.ml.i16 + floorDiv (speedError s * (setting s 13 : Int)) 16) (-16368) 16368

/-- The drive U for an integral (R28, R29). -/
def driveFor (s : State) (integral : Int) : Int :=
  floorDiv ((s.slu.r : Int) * (setting s 11 : Int)) 128 + floorDiv (speedError s * (setting s 12 : Int)) 32 +
    floorDiv integral 16

/-- Windup holds (R29, step 2). -/
def windup (s : State) : Bool :=
  let u := driveFor s (integralNew s)
  let e := speedError s
  (decide ((dutyLimit s : Int) < u) && decide (0 < e)) || (decide (u < 0) && decide (e < 0))

/-- The integral after the loop (R29, steps 3 and 4). -/
def integralAfter (s : State) : Int := if windup s then s.ml.i16 else integralNew s

/-- The duty of the loop (R29, step 5). -/
def loopDuty (s : State) : Nat := (clampInt (driveFor s (integralAfter s)) 0 (dutyLimit s : Int)).toNat

/-- The Motor Loop's state with the bridge in `b`, D at 0 and I16 at 0: the rest of the loop (R30). -/
def restLoop (b : BridgeState) (m : Ml) : Ml := { m with bridge := b, d := 0, i16 := 0 }

/-- The decision at a gap end (R27 to R30). -/
def decideBridge (s : State) : State :=
  if s.ps.outputsOff then s.modMl (restLoop .coast)
  else if s.ml.bridge = .tripped then s.modMl fun m => { m with d := 0 }
  else if s.ml.fault then s.modMl (restLoop .coast)
  else if s.slu.r = 0 ∧ s.slu.tEff = 0 then s.modMl (restLoop (if s.ct.latch.held then .brake else .coast))
  else
    s.modMl fun m =>
      { m with
        bridge := if s.ps.power = .coasting ∨ s.ps.power = .down then .coast else .drive
        d := loopDuty s
        i16 := integralAfter s }

/-- At the gap end the ML forms the median and M (R26). -/
def formSpeed (s : State) : State :=
  let median := median3 s.scan.bemf1 s.scan.bemf2 s.scan.bemf3
  (s.modScan fun c => { c with median := median }).modMl fun m =>
    { m with m := measuredSpeed s median, inGap := false }

/-! ### Notices from other blocks (R32 to R34) -/

/-- The Stop latch gained its first cause (R32); after the order to switch the outputs off the bridge stays in COAST
(R16, R34). -/
def motorFirstCause (s : State) : State :=
  match s.ml.bridge with
  | .drive => s.modMl (restLoop (if s.ml.fault || s.ps.outputsOff then .coast else .brake))
  | .coast => s.modMl (restLoop (if s.ml.fault || s.ps.outputsOff then .coast else .brake))
  | .tripped => s
  | .brake => s

/-- The travel direction changed (R33). DESIGN CHOICE (assumption 43): a bridge that drove in the last drive part still
counts as in DRIVE during the gap, so that a turn at the ramp tick that begins a gap gives COAST and clears D and I16. -/
def motorTurn (s : State) : State := if s.ml.bridge = .drive then s.modMl (restLoop .coast) else s

/-- The power state became COASTING or DOWN: a driving bridge goes to COAST, I16 is kept (R34). -/
def motorShed (s : State) : State :=
  if s.ml.bridge = .drive then s.modMl fun m => { m with bridge := .coast, d := 0 } else s

/-- The input has returned: I16 is cleared (R34). -/
def motorReturn (s : State) : State := s.modMl fun m => { m with i16 := 0 }

/-- The order to switch the outputs off (R34). -/
def motorOff (s : State) : State := s.modMl fun m => { restLoop .coast m with retry := none }

/-! ### Current readings (sections 2.5, 2.6) -/

/-- The trip level (R35). -/
def tripLevel (s : State) : Nat := min (2 * setting s 15) 800

/-- A third trip sets the Motor Fault latch (R40): COAST, timers idle, T_eff recomputed, a STATUS to the Driver. -/
def motorFaultSet (s : State) : State :=
  statusToDriver (recompute (s.modMl fun m =>
    { restLoop .coast m with tripCounter := 3, retry := none, quiet := none, fault := true }))

/-- A current reading trips the bridge (R37). -/
def trip (s : State) : State :=
  if 2 ≤ s.ml.tripCounter then motorFaultSet s
  else
    s.modMl fun m =>
      { restLoop .tripped m with tripCounter := m.tripCounter + 1, quiet := some 0, retry := some 0 }

/-- A reading taken in DRIVE is compared with the trip level (R35). -/
def compareCurrent (current : Nat) (s : State) : State :=
  if s.ml.bridge = .drive ∧ tripLevel s < current then trip s else s

/-- Dcap after the second reading, by the bridge state and the cycle's mean (R36). -/
def nextDcap (s : State) (mean : Nat) : Nat :=
  match s.ml.bridge with
  | .drive =>
    if setting s 15 < mean then max 64 (s.ml.dcap - s.ml.dcap / 8) else min 1023 (s.ml.dcap + 32)
  | .coast => min 1023 (s.ml.dcap + 32)
  | .brake => min 1023 (s.ml.dcap + 32)
  | .tripped => s.ml.dcap

/-- The ML changes Dcap, and lowers D to it for the rest of the drive part (R36). -/
def adjustDcap (mean : Nat) (s : State) : State :=
  s.modMl fun m => { m with dcap := nextDcap s mean, d := min m.d (nextDcap s mean) }

/-! ### Retry and quiet count (R38, R39) -/

/-- The retry timer expires (R38). -/
def retryExpire (s : State) : State :=
  s.modMl fun m => { m with bridge := .coast, i16 := 0, dcap := 512, retry := none }

/-- The retry timer runs in TRIPPED and has reached 64. -/
def retryDue (s : State) : Bool := s.ml.bridge == .tripped && timerAt s.ml.retry 64

def retryExpiry (s : State) : State := if retryDue s then retryExpire s else s

/-- The quiet count has reached 640: the trip counter returns to 0 (R39). -/
def quietExpire (s : State) : State := s.modMl fun m => { m with tripCounter := 0, quiet := none }

def quietDue (s : State) : Bool := timerAt s.ml.quiet 640

def quietExpiry (s : State) : State := if quietDue s then quietExpire s else s

/-- A DRIVE with step 0 was taken: a set Motor Fault latch is cleared (R41). -/
def motorFaultClear (s : State) : State :=
  if s.ml.fault then
    recompute (s.modMl fun m => { m with fault := false, tripCounter := 0, quiet := none, dcap := 512, i16 := 0 })
  else s

end Sys2Proof.Machine
end

