-- ==== Sys2Proof/Machine/Tracker.lean ====
section
/-! DEFINITION. The Motion Tracker (chapter 3): the wheel phase chain, the wheel sensor, labor and the Cue Matchers. -/

namespace Sys2Proof.Machine

/-! ### Cue Matchers (section 3.5) -/

def matcherSetting (s : State) (m : Fin 8) (offset : Nat) : Nat := setting s (128 + 6 * m.val + offset)

/-- A field of weight `w` is enabled in a matcher (R60). -/
def fieldEnabled (s : State) (m : Fin 8) (w : Nat) : Bool := matcherSetting s m 0 / w % 2 == 1

/-- Every enabled field of the matcher matches, and at least one is enabled (R60, R61). -/
def matcherFires (s : State) (m : Fin 8) : Bool :=
  let position := matcherSetting s m 1
  let rule := matcherSetting s m 2
  0 < matcherSetting s m 0 &&
    ((!fieldEnabled s m 1 || s.mt.chuff == position % 8) &&
      ((!fieldEnabled s m 2 || s.mt.revolution % (rule / 16 + 1) == rule % 16) &&
        ((!fieldEnabled s m 4 || s.slu.travel == (if position / 8 % 2 = 0 then .fwd else .rev)) &&
          ((!fieldEnabled s m 8 || (matcherSetting s m 3 ≤ s.slu.r && s.slu.r ≤ matcherSetting s m 4)) &&
            (!fieldEnabled s m 16 || functionOn s (position / 16))))))

/-- What a firing does: NONE, SOUND or PUFF (R61). -/
def matcherAction (m : Fin 8) (s : State) : State :=
  let action := matcherSetting s m 5
  if action = 0 then s
  else if action = 256 then smokePuff s
  else raiseDirect (.matcher m) action s

/-- One matcher at a chain step (R61). -/
def testMatcher (s : State) (m : Fin 8) : State := if matcherFires s m then matcherAction m s else s

/-! ### The wheel phase chain (section 3.2) -/

/-- The chain after one step (R48). -/
def advanceChain (c : Nat) (m : Mt) : Mt :=
  if m.chuff + 1 = c then
    { m with
      chuff := 0
      revolution := (m.revolution + 1) % 256
      odometer := (m.odometer + 1) % 4294967296 }
  else { m with chuff := m.chuff + 1 }

/-- The odometer halves of the working copy follow the Odometer (R50). -/
def storeOdometer (s : State) : State :=
  storeSetting 502 (s.mt.odometer % 65536) (storeSetting 501 (s.mt.odometer / 65536) s)

/-- The kind of a chuff cue raised now (R49). -/
def chuffKind (s : State) : CueKind :=
  match s.mt.labor with
  | .light => .chuffLight
  | .heavy => .chuffHeavy

/-- With STEAM the chuff cue of a chain step is raised (R49). -/
def chuffCue (s : State) : State := if isMotorType s then s else raiseCue (chuffKind s) (some s.mt.chuff) s

/-- The matchers are tested in order of matcher number (R61). -/
def testMatchers (s : State) : State := (List.finRange 8).foldl testMatcher s

/-- What a chain step hands on, in order: the CHUFF event, the chuff cue, the matcher tests (R49). -/
def handOnStep (s : State) : State := testMatchers (chuffCue (smokePuff s))

/-- The odometer halves follow an Odometer that has advanced (R50). -/
def keepOdometer (old : Nat) (s : State) : State := if s.mt.odometer = old then s else storeOdometer s

/-- One chain step (R48, R49). -/
def chainStep (s : State) : State :=
  handOnStep (keepOdometer s.mt.odometer (s.modMt (advanceChain (setting s 17))))

/-- `n` chain steps, each lowering PA by the Quantum first (R47). -/
def chainSteps : Nat → State → State
  | 0, s => s
  | n + 1, s => chainSteps n (chainStep (s.modMt fun m => { m with pa := m.pa - setting s 16 }))

/-- PA takes M (R47). -/
def addSpeed (s : State) : State := s.modMt fun m => { m with pa := m.pa + s.ml.m }

/-- The chain steps that PA holds (R47). -/
def takeSteps (s : State) : State := chainSteps (s.mt.pa / setting s 16) s

/-- A gap end with SYNTH in effect: M is added to PA, and chain steps follow for as long as PA is Q or more (R47). -/
def synthAdvance (s : State) : State := takeSteps (addSpeed s)

/-! ### Wheel sensor and fallback (section 3.3) -/

/-- The MT falls back to synthesis, and the same gap end is treated as in SYNTH mode (R54). -/
def sensorFall (s : State) : State :=
  synthAdvance (s.modMt fun m => { m with source := .synth, pa := 0, fallback := true })

/-- The silent count has reached 250 with SENSOR set and in effect (R54). -/
def fallbackDue (s : State) : Bool :=
  setting s 18 == 1 && (s.mt.source == .sensor && 250 ≤ s.mt.silent)

def sensorFallback (s : State) : State := if fallbackDue s then sensorFall s else s

/-- The silent count after a gap end (R54). -/
def nextSilent (s : State) : Nat := if s.mt.pulseSeen ∨ s.ml.m < 32 then 0 else s.mt.silent + 1

/-- The MT at a gap end (R47, R54). -/
def trackGapEnd (s : State) : State :=
  match s.mt.source with
  | .synth => synthAdvance (s.modMt fun m => { m with pulseSeen := false })
  | .sensor =>
    if setting s 18 = 1 then
      sensorFallback (s.modMt fun m => { m with silent := nextSilent s, pulseSeen := false })
    else s.modMt fun m => { m with pulseSeen := false }

/-- The pulse comes less than 4 ms after the last accepted pulse (R52). -/
def bounces (last : Option Nat) (time : Nat) : Bool :=
  match last with
  | some t => time < t + 4000
  | none => false

/-- The pulse is accepted (R52). DESIGN CHOICE (assumption 46): it counts as accepted since the previous gap end (R54)
whichever chuff source is in effect, also where SENSOR is applied before the next gap end. -/
def notePulse (time : Nat) (s : State) : State := s.modMt fun m => { m with lastPulse := some time, pulseSeen := true }

/-- The sensor is in effect again (R55). -/
def sensorReturn (s : State) : State :=
  s.modMt fun m => { m with source := .sensor, pa := 0, fallback := false, silent := 0 }

/-- What an accepted pulse does (R52, R53, R55). -/
def pulseAccepted (s : State) : State :=
  if s.mt.fallback then chainStep (sensorReturn s)
  else
    match s.mt.source with
    | .sensor => chainStep (s.modMt fun m => { m with silent := 0 })
    | .synth => s

/-- A pulse on the wheel-sensor input at a time in microseconds (R52). -/
def wheelPulse (time : Nat) (s : State) : State :=
  if bounces s.mt.lastPulse time then s else pulseAccepted (notePulse time s)

/-! ### Labor (section 3.4) -/

/-- The labor value of a window mean (R58). -/
def laborValue (s : State) (mean : Nat) : Nat := min 255 (mean * 255 / setting s 15)

/-- The labor state is tested with hysteresis against L (R59). -/
def testLabor (s : State) : State :=
  match s.mt.labor with
  | .light =>
    if setting s 20 ≤ s.mt.l then raiseCue .laborUp none (s.modMt fun m => { m with labor := .heavy }) else s
  | .heavy =>
    if s.mt.l < setting s 20 - setting s 21 then
      raiseCue .laborDown none (s.modMt fun m => { m with labor := .light })
    else s

/-- L is formed and the next window opened (R58). -/
def formLabor (s : State) : State :=
  s.modMt fun m => { m with l := laborValue s (m.windowSum / 16), windowSum := 0, windowCount := 0 }

/-- The window closes (R58); with MOTOR type the Smoke Controller forms its fan level anew (R95). -/
def closeWindow (s : State) : State := testLabor (formFan (formLabor s))

def laborWindowClose (s : State) : State := if 16 ≤ s.mt.windowCount then closeWindow s else s

/-- The MT takes a cycle mean current (R57). -/
def trackCurrent (mean : Nat) (s : State) : State :=
  laborWindowClose (s.modMt fun m => { m with windowSum := m.windowSum + mean, windowCount := m.windowCount + 1 })

end Sys2Proof.Machine
end

