-- ==== Sys2Proof/Machine/Motion.lean ====
section
/-! DEFINITION. What the Speed Law Unit does to the ramp and the travel direction, with its notices to the other blocks
(R11 to R19), and the Stop latch, whose first cause stops the ramp (R16, R32, R170, R171). -/

namespace Sys2Proof.Machine

/-! ### Travel direction and notices -/

/-- R is 0 and the requested direction differs from the travel direction (R15). -/
def turnDue (s : State) : Bool := s.slu.r == 0 && s.ct.requested != s.slu.travel

/-- The travel direction takes the requested direction (R15, R33). -/
def turnTravel (s : State) : State :=
  recompute (raiseCue .reversed none (motorTurn (s.modSlu fun u => { u with travel := s.ct.requested })))

/-- The turn of R15, where it is due. -/
def turnIfDue (s : State) : State := if turnDue s then turnTravel s else s

/-- The Function Mapper's notice of a crossing or a turn (R15, R19), and the Settings Store's of R having reached 0 (R19,
R181): their order is open. -/
def crossNotices (crossed turned : Bool) (s : State) : State :=
  anyOrder
    (noticeIf (crossed || turned) evaluateMap ++
      noticeIf (crossed && s.slu.r == 0 && !s.ss.deferred.isEmpty) applyDeferred)
    s

/-- What follows a change of R or of the requested direction: the turn of R15, then the notices of R15 and R19
(assumption 15). `crossed`: R passed between 0 and a value above 0. -/
def motionNotices (crossed : Bool) (s : State) : State := crossNotices crossed (turnDue s) (turnIfDue s)

/-- R and F take new values. -/
def putRamp (r f : Nat) (s : State) : State := s.modSlu fun u => { u with r := r, f := f }

/-- R has just passed between 0 and a value above 0, or has not: the cue of R18, T_eff, and the notices of R15 and
R19. -/
def afterRamp (was : Nat) (s : State) : State :=
  if 0 < was ∧ s.slu.r = 0 then motionNotices true (recompute (raiseCue .stopped none s))
  else if was = 0 ∧ 0 < s.slu.r then motionNotices true (recompute (raiseCue .startMoving none s))
  else motionNotices false s

/-- R and F take new values, with the cues and notices of R15, R18 and R19. -/
def setRamp (r f : Nat) (s : State) : State := afterRamp s.slu.r (putRamp r f s)

/-- The requested direction takes a value in the locomotive's own sense (R15, R165). -/
def setRequested (d : Direction) (s : State) : State :=
  motionNotices false (recompute (s.modCt fun c => { c with requested := d }))

/-! ### Ramp tick, emergency stop, re-seed -/

/-- The ramp tick of a control cycle (R11 to R14). -/
def rampTick (s : State) : State :=
  if rampFrozen s then s
  else
    setRamp (rampStep s.slu.r s.slu.f s.slu.tEff (rampRate s) s.fe.momentumOff).1
      (rampStep s.slu.r s.slu.f s.slu.tEff (rampRate s) s.fe.momentumOff).2 s

/-- The Stop latch gained its first cause: R and F are set to 0 at once, and T_eff is recomputed (R16). -/
def emergencyStop (s : State) : State := recompute (setRamp 0 0 s)

/-- The input has returned after COASTING: R is re-seeded from M (R17). -/
def reSeed (s : State) : State := setRamp (min s.ml.m s.slu.tEff) 0 s

/-! ### The Stop latch (R170, R171) -/

/-- The Stop latch gained its first cause (R170): the target step becomes 0, R and the bridge stop (R16, R32), and the
cue ESTOP is raised. DESIGN CHOICE: in the order in which the rule numbers them, so the ESTOP cue follows the STOPPED and
REVERSED cues and the notices of the stop, an order that R175 leaves open (assumption 38). -/
def firstCause (s : State) : State := raiseCue .estop none (motorFirstCause (emergencyStop (setTarget 0 s)))

/-- The Stop latch changes. -/
def modLatch (g : StopLatch → StopLatch) (s : State) : State := s.modCt fun c => { c with latch := g c.latch }

/-- A cause is added to the Stop latch (R170); `g` adds it. -/
def addCause (g : StopLatch → StopLatch) (s : State) : State :=
  if s.ct.latch.held then modLatch g s else firstCause (modLatch g s)

/-- Causes leave the Stop latch; when it empties, T_eff is recomputed (R171). -/
def removeCauses (g : StopLatch → StopLatch) (s : State) : State :=
  if s.ct.latch.held ∧ (g s.ct.latch).held = false then recompute (modLatch g s) else modLatch g s

def withThrottleEstop (l : StopLatch) : StopLatch := { l with throttleEstop := true }
def withBaseHalt (l : StopLatch) : StopLatch := { l with baseHalt := true }
def withLinkBreak (l : StopLatch) : StopLatch := { l with linkBreak := true }
def withSignalLoss (l : StopLatch) : StopLatch := { l with signalLoss := true }

/-- What RESUME_ALL leaves of the latch (R171). -/
def afterResume (l : StopLatch) : StopLatch := { l with baseHalt := false, linkBreak := false }

end Sys2Proof.Machine
end

