-- ==== Sys2Proof/Machine/Power.lean ====
section
/-! DEFINITION. The Power Supervisor (chapter 7) up to the restarts: input and store, shedding, the return of the input,
the heater allowance, the DOWN save. -/

namespace Sys2Proof.Machine

/-! ### Changes of the power state -/

/-- The smoke state is one that a change of power state can change (R88). -/
def smokeHearsPower (s : State) : Bool :=
  s.sc.smoke == .preheat || s.sc.smoke == .ready || s.sc.smoke == .shed

/-- The power state takes a value; the bridging timer goes idle in COASTING and DOWN (R130, R134). -/
def setPower (new : PowerState) (s : State) : State :=
  s.modPs fun p => { p with power := new, bridging := if new = .coasting ∨ new = .down then none else p.bridging }

/-- The Motor Loop is told of COASTING and DOWN (R34). -/
def shedMotor (new : PowerState) (s : State) : State := if new = .coasting ∨ new = .down then motorShed s else s

/-- The power state becomes `new`, and is reported to the Motor Loop, the Function Mapper, the Sound Engine (which read
it where it is held), and the Smoke Controller (R131, R142). -/
def shedTo (new : PowerState) (s : State) : State :=
  smokePower s.ps.power new (refreshLights (shedMotor new (setPower new s)))

/-- The Power Supervisor enters BRIDGING (R126, R128). -/
def enterBridging (s : State) : State :=
  s.modPs fun p => { p with power := .bridging, lost := 0, back := 0, bridging := some 0 }

/-- The input is found lost in NORMAL (R128). -/
def inputLost (s : State) : State :=
  smokePower .normal .bridging (refreshLights (raiseCue .lowPower none (enterBridging s)))

/-- The Power Supervisor enters NORMAL (R132). -/
def enterNormal (s : State) : State := s.modPs fun p => { p with power := .normal, back := 0, bridging := none }

/-- The reports of the return to the Speed Law Unit and the Smoke Controller can each raise cues, and carry no order
(R132, R142). -/
def returnNotices (old : PowerState) (s : State) : State :=
  anyOrder (noticeIf (old == .coasting) reSeed ++ noticeIf (smokeHearsPower s) (smokePower old .normal)) s

/-- The input has returned (R132). -/
def inputReturn (s : State) : State := returnNotices s.ps.power (refreshLights (motorReturn (enterNormal s)))

/-- The Settings Store applies no further write; the Deferred List is discarded and a rewrite stops (R134, R140,
R183). -/
def stopWrites (s : State) : State := s.modSs fun b => { b with writeStop := true, deferred := [], rewrite := none }

/-- The stage in which the save begins. The write in transfer of an abandoned restart counts as its first (R140): an
Odometer write finds the queue empty, so that PERSIST passes at once, and is the save's ODOMETER write (R135,
assumption 23). -/
def firstStage (s : State) : SaveStage :=
  match s.nv.write with
  | some (.pending, .odometer _) => if s.ss.persist.isEmpty then .odometer else .persist
  | some _ => .persist
  | none => .persist

/-- The save begins, and a pending restart is abandoned (R134, R140). -/
def beginSave (s : State) : State := s.modPs fun p => { p with pendingRestart := none, stage := firstStage s }

/-- The power state becomes DOWN (R134). -/
def goDown (s : State) : State := nextWrite (stopWrites (beginSave (shedTo .down s)))

/-! ### The store (R129) and the bridging timer (R130) -/

/-- The store test of a Vs reading (R129), deepest level first. -/
def storeTest (vs : Nat) (s : State) : State :=
  match s.ps.power with
  | .normal => s
  | .down => s
  | .bridging =>
    if vs < setting s 52 then goDown s
    else if vs < setting s 51 then shedTo .coasting s
    else if vs < setting s 50 then shedTo .dimmed s
    else s
  | .dimmed =>
    if vs < setting s 52 then goDown s else if vs < setting s 51 then shedTo .coasting s else s
  | .coasting => if vs < setting s 52 then goDown s else s

/-- A hold-up store reading (R23, R129). -/
def vsReading (raw : Raw) (s : State) : State :=
  storeTest (voltageValue raw) (s.modScan fun c => { c with vs := voltageValue raw })

/-- The bridging timer's elapsed time exceeds the limit in BRIDGING or DIMMED (R130). -/
def bridgingDue (s : State) : Bool :=
  (match s.ps.bridging with
    | some ms => setting s 49 < ms
    | none => false) &&
    (s.ps.power == .bridging || s.ps.power == .dimmed)

def bridgingExpiry (s : State) : State := if bridgingDue s then shedTo .coasting s else s

/-! ### The heater allowance (R133) -/

/-- The allowance for a cycle's mean current (R133). -/
def allowanceFor (s : State) (mean : Nat) : Nat :=
  if s.ps.power = .normal then setting s 48 - mean - s.fe.lightEstimate else 0

/-- The allowance is formed and reported to the Smoke Controller (R133, R93). -/
def formAllowance (mean : Nat) (s : State) : State :=
  let a := allowanceFor s mean
  smokeAllowance a (s.modPs fun p => { p with allowance := a })

/-! ### The save (R135, R137) -/

/-- The PS orders the outputs off (R137): the Motor Loop, the Smoke Controller, the Sound Engine and the lights. -/
def orderOutputsOff (s : State) : State :=
  refreshLights (soundOff (smokeOff (motorOff (s.modPs fun p => { p with outputsOff := true }))))

/-- The write that clears the Resume Record's mark begins, when no write is in transfer: a WARM restart (R137, R138). -/
def beginWarm (s : State) : State :=
  match s.nv.write with
  | none => beginWrite .restart .clearMark s
  | some _ => s

/-- The save stage takes a value. -/
def setStage (stage : SaveStage) (s : State) : State := s.modPs fun p => { p with stage := stage }

/-- The save has reached ENDED (R137). -/
def saveEnded (s : State) : State :=
  if s.ps.back = 4 then beginWarm (setStage .ended s) else orderOutputsOff (setStage .ended s)

/-- The Odometer has been written: the stage becomes RESUME, and the Resume Record's contents are written as they stand
(R135). -/
def beginRecord (s : State) : State := beginWrite .save (.record (resumeContents s)) (setStage .resume s)

/-- The save moves on when one of its writes has completed (R135). -/
def saveAdvance (job : NvJob) (s : State) : State :=
  match job with
  | .slot _ _ => nextWrite s
  | .odometer _ => beginRecord s
  | .record _ => beginWrite .save .mark (setStage .mark s)
  | .mark => saveEnded s
  | .clearMark => s

/-- A nonvolatile write of the save completes (R135). -/
def saveWriteDone (s : State) : State :=
  match s.nv.write with
  | some (.save, job) => saveAdvance job (persistLanded job (landWrite job s))
  | some (.background, _) => s
  | some (.rewrite, _) => s
  | some (.pending, _) => s
  | some (.restart, _) => s
  | none => s

/-! ### Pending restarts (R140) -/

/-- The Power Supervisor refuses a RESTART: DOWN, or a restart already pending (R140). -/
def restartRefused (s : State) : Bool := s.ps.power == .down || s.ps.pendingRestart.isSome

/-- A RESTART is accepted: the restart becomes pending, writes stop, the Deferred List is discarded, a rewrite ends, and
the writes go on (R140, R183). -/
def acceptRestart (s : State) : State :=
  nextWrite (stopWrites (s.modPs fun p => { p with pendingRestart := some .commanded }))

/-- A DEFAULTS is accepted: the rewrite starts (R183). -/
def acceptDefaults (s : State) : State :=
  nextWrite (s.modSs fun b => { b with deferred := [], persist := [], rewrite := some 1 })

end Sys2Proof.Machine
end

