-- ==== Sys2Proof/Machine/Readings.lean ====
section
/-! DEFINITION. The shared timers and the Measurement Scanner: what the step timer (R1), the control-cycle timer (R22)
and each reading of the scanner (R23) bring about. -/

namespace Sys2Proof.Machine

/-! ### Signal loss (R168) -/

/-- The signal-loss time expires: a DRIVER that is not LOST has not been heard for it (R168). -/
def signalLossDue (s : State) : Bool :=
  match driverEntry s with
  | some e => 0 < setting s 54 && (!driverLost s && setting s 54 ≤ e.age)
  | none => false

/-- The Loss action (R168): STOP, HOLD or ESTOP. -/
def lossAction (s : State) : State :=
  if setting s 55 = 0 then setTarget 0 s
  else if setting s 55 = 1 then s
  else addCause withSignalLoss s

/-- The Driver is marked LOST, the MOMENTARY functions go OFF, and the Loss action is taken (R168). DESIGN CHOICE: in the
order in which the rule numbers them, so the functions' changes reach the Function Mapper before the Loss action reaches
the Speed Law Unit, an order that R175 leaves open (assumption 39). -/
def signalLossExpire (s : State) : State := lossAction (momentaryOff (markLost s))

def signalLossExpiry (s : State) : State := if signalLossDue s then signalLossExpire s else s

/-! ### The step timer (R1) -/

/-- The heard ages rise, and WATCHERs aged out are removed (R160). -/
def riseAges (s : State) : State := watcherAgeOut (s.modCt fun c => { c with entries := ageEntries c.entries })

/-- The hold-off timer and the telemetry timer count a step (R9, R155). -/
def countStep (s : State) : State :=
  (s.modSlu fun u => { u with holdOff := tickTimer u.holdOff }).modRadio fun b =>
    { b with telemetry := tickTimer b.telemetry }

/-- What expires at a step belongs to three blocks, whose order is open (R9, R155, R168). -/
def stepExpiries (s : State) : State :=
  anyOrder
    (noticeIf (signalLossDue s) signalLossExpiry ++ noticeIf (holdOffDue s) holdOffExpiry ++
      noticeIf (telemetryDue s) telemetryExpiry)
    s

/-- A step of the step timer: ages rise, timers count, and what has run out expires (R1, R9, R155, R160, R168). -/
def stepTimer (s : State) : State := stepExpiries (countStep (riseAges s))

/-! ### The control-cycle timer (R22) -/

/-- The bridge goes off for the gap, and the retry timer, the quiet count and the bridging timer count an expiry (R22,
R38, R39, R130). DESIGN CHOICE (assumption 43): the fields `bridge` and `d` keep the bridge state and D of the last drive
part through the gap, whose bridge is off whatever they hold, until the gap end decides them afresh. -/
def countCycle (s : State) : State :=
  (s.modMl fun m => { m with inGap := true, retry := tickTimer m.retry, quiet := tickTimer m.quiet }).modPs fun p =>
    { p with bridging := p.bridging.map (· + 8) }

/-- The ramp tick, and the counts that have run out, whose order is open (R11, R38, R39, R130). -/
def cycleExpiries (s : State) : State :=
  anyOrder
    ([rampTick] ++ noticeIf (retryDue s) retryExpiry ++ noticeIf (quietDue s) quietExpiry ++
      noticeIf (bridgingDue s) bridgingExpiry)
    s

/-- An expiry of the control-cycle timer (R22). -/
def controlCycle (s : State) : State := cycleExpiries (countCycle s)

/-! ### The readings of the gap (R23) -/

/-- A back-EMF reading takes its field (R23, R24). -/
def bemfReading (which : Fin 3) (polarity : Direction) (raw : Raw) (s : State) : State :=
  let v := bemfValue s polarity raw
  s.modScan fun c =>
    if which = 0 then { c with bemf1 := v } else if which = 1 then { c with bemf2 := v } else { c with bemf3 := v }

/-- The return count after a reading (R126). -/
def nextBack (back vin : Nat) : Nat := if 70 ≤ vin then back + 1 else 0

/-- A Vin reading in NORMAL (R126). -/
def vinNormal (vin : Nat) (s : State) : State :=
  if 60 ≤ vin then s.modPs fun p => { p with lost := 0 }
  else if s.ps.lost = 0 then s.modPs fun p => { p with lost := 1 }
  else inputLost s

/-- A Vin reading in BRIDGING, DIMMED or COASTING (R126). -/
def vinShed (vin : Nat) (s : State) : State :=
  if 4 ≤ nextBack s.ps.back vin then inputReturn s
  else s.modPs fun p => { p with back := nextBack p.back vin }

/-- The return count in DOWN, up to 4 (R126). -/
def countBack (vin : Nat) (s : State) : State := s.modPs fun p => { p with back := min 4 (nextBack p.back vin) }

/-- With the save ENDED and the return count at 4 the WARM restart begins (R137). -/
def warmIfBack (s : State) : State := if s.ps.stage = .ended ∧ s.ps.back = 4 then beginWarm s else s

/-- A Vin reading in DOWN (R126, R137). -/
def vinDown (vin : Nat) (s : State) : State := warmIfBack (countBack vin s)

/-- The Power Supervisor keeps its counts at a Vin reading (R126). -/
def inputTest (vin : Nat) (s : State) : State :=
  match s.ps.power with
  | .normal => vinNormal vin s
  | .bridging => vinShed vin s
  | .dimmed => vinShed vin s
  | .coasting => vinShed vin s
  | .down => vinDown vin s

/-- A track input reading (R23, R126). -/
def vinReading (raw : Raw) (s : State) : State :=
  inputTest (voltageValue raw) (s.modScan fun c => { c with vin := voltageValue raw })

/-- A thermistor reading (R23, R89). -/
def thermistorReading (raw : Raw) (s : State) : State :=
  smokeReading raw.toNat (s.modScan fun c => { c with thermistor := raw.toNat })

/-! ### The gap end and the current readings -/

/-- The gap ends: M is formed, the bridge decided, the chain advanced (R26, R27, R47, R54). -/
def gapEnd (s : State) : State := trackGapEnd (decideBridge (formSpeed s))

/-- The cycle's mean current (R36). -/
def meanCurrent (s : State) : Nat := (s.scan.currentA + s.scan.currentB) / 2

/-- What a cycle's mean current does at the second reading (R36, R43, R57, R133). -/
def handMean (mean : Nat) (s : State) : State := formAllowance mean (trackCurrent mean (adjustDcap mean s))

/-- The second reading of the cycle is in the record (R35, R36). -/
def secondCurrent (s : State) : State := handMean (meanCurrent s) (compareCurrent s.scan.currentB s)

/-- A motor current reading (R23, R35, R36). -/
def currentReading (which : Fin 2) (raw : Raw) (s : State) : State :=
  let v := currentValue s raw
  if which = 0 then compareCurrent v (s.modScan fun c => { c with currentA := v })
  else secondCurrent (s.modScan fun c => { c with currentB := v })

end Sys2Proof.Machine
end

