-- ==== Sys2Proof/Machine/Restart.lean ====
section
/-! DEFINITION. Restarts (section 7.6): the state that every block takes at a restart (R21, R46, R64, R85, R99, R125,
R139, R158, R176, R185), power-up and power loss, and the write that ends in a restart. -/

namespace Sys2Proof.Machine

/-! ### The restored contents -/

/-- The working copy at a restart (R185): the slots clamped, the odometer halves, the restart kind, and the project ID,
which is 0 after a power-up. -/
def restartWorking (kind : RestartKind) (s : State) : Store :=
  let w := Store.load s.nv.slots
  let w := (w.write 501 (s.nv.odometer / 65536)).write 502 (s.nv.odometer % 65536)
  (w.write 503 kind.code).write 504 (if s.phase = .running then setting s 504 else 0)

/-- The Driver that a WARM restart restores (R176). -/
def restoredEntries (w : Store) (c : ResumeRecord) : List Entry :=
  match c.driver with
  | some (id, .loco) => [⟨id, .driver .loco false, 0⟩]
  | some (id, .consist) => if w.read 2 = 0 then [] else [⟨id, .driver .consist false, 0⟩]
  | none => []

/-- The Control Table at a restart (R176). -/
def restartCt (kind : RestartKind) (w : Store) (c : ResumeRecord) : Ct :=
  if kind = .warm then
    ⟨restoredEntries w c, min 112 c.target, c.requested, StopLatch.empty,
      Vector.ofFn fun n : Fin 32 => c.functions[n] && w.read (96 + n.val) % 2 == 0⟩
  else ⟨[], 0, .fwd, StopLatch.empty, Vector.replicate 32 false⟩

/-! ### The blocks' restart states -/

/-- The power state that a start-up sample gives (R139). -/
def startPower (sample : Raw) : PowerState := if 70 ≤ voltageValue sample then .normal else .bridging

/-- The Power Supervisor at a restart (R139). -/
def restartPs (kind : RestartKind) (power : PowerState) : Ps :=
  ⟨power, 0, 0, if power = .normal then none else some 0, 0, .idle, none, kind, false⟩

/-- The Motor Loop at a restart, in its first gap (R22, R46). -/
def restartMl : Ml := ⟨0, 0, 0, 1023, .coast, 0, none, none, false, true⟩

/-- The Scan Results record at a restart (R46). -/
def restartScan : Scan := ⟨0, 0, 0, 0, 0, 0, 0, 0, 0⟩

/-- The Motion Tracker at a restart (R64). -/
def restartMt (w : Store) (odometer : Nat) : Mt :=
  ⟨0, 0, 0, odometer, 0, 0, 0, .light, if w.read 18 = 1 then .sensor else .synth, false, none, 0, false⟩

/-- The Function Mapper at a restart (R85). -/
def restartFe : Fe :=
  ⟨Vector.replicate 24 false, false, false, false, false, false, false, false, false, Vector.replicate 8 Gen.off,
    0xACE1#16, 0⟩

/-- The Smoke Controller at a restart (R99). -/
def restartSc : Sc := ⟨.off, none, false, 0, 0, 0, 0, none, 0, none, none, 0⟩

/-- The Sound Engine at a restart (R125). -/
def restartSe : Se :=
  ⟨.checking, 0, Vector.replicate 16 (0, 0), [], none, none, .header, 7, false, 0, 512, 0,
    Vector.replicate 8 Voice.freed⟩

/-- The Radio Link Port at a restart (R158). -/
def restartRadio (w : Store) (entries : List Entry) : Radio :=
  ⟨.hunting, [], 0, [], false, [], 0, none, if entries.isEmpty || w.read 53 == 0 then none else some 0⟩

/-- The Service Link Port at a restart (R158). -/
def restartService : Service := ⟨.hunting, [], .idle, none, none, none⟩

/-- The Settings Store at a restart (R185). -/
def restartSs (w : Store) : Ss := ⟨w, [], [], false, none⟩

/-- Every block in its restart state, with a working copy and a Control Table, before the permit is formed. -/
def restartBase (kind : RestartKind) (sample : Raw) (w : Store) (ct : Ct) (s : State) : State where
  phase := .running
  slu := ⟨0, 0, 0, ct.requested, .notRequired, none⟩
  ml := restartMl
  scan := restartScan
  mt := restartMt w s.nv.odometer
  fe := restartFe
  sc := restartSc
  se := restartSe
  ps := restartPs kind (startPower sample)
  radio := restartRadio w ct.entries
  service := restartService
  decoder := ⟨false, .service⟩
  ct := ct
  ss := restartSs w
  nv := { s.nv with write := none }
  orderCount := s.orderCount
  pending := s.pending

/-- The permit state and T_eff at a restart (R21). -/
def restartPermit (s : State) : State := permitSettle (permitRequiredNow s) s

/-- Every block in its restart state, T_eff and the permit formed, and no event taken yet. -/
def restartBlocks (kind : RestartKind) (sample : Raw) (s : State) : State :=
  restartPermit (restartBase kind sample (restartWorking kind s) (restartCt kind (restartWorking kind s) s.nv.record) s)

/-- With STEAM the AMBIENT cue is raised at the restart (R108, R125). -/
def restartAmbient (s : State) : State := if isMotorType s then s else raiseCue .ambient none s

/-- A restart into BRIDGING raises LOW_POWER, and the Function Mapper makes its first evaluation (R85, R139), in an order
that is open. -/
def restartNotices (s : State) : State :=
  anyOrder (noticeIf (s.ps.power == .bridging) (raiseCue .lowPower none) ++ [evaluateMap]) s

/-- A restart (R139): every block takes its restart state, then the events of the restart follow. -/
def performRestart (kind : RestartKind) (sample : Raw) (s : State) : State :=
  restartNotices (restartAmbient (restartBlocks kind sample s))

/-! ### Power-up and power loss (R127, R138) -/

/-- Power is lost (R127): every block stops, every output is off, a write in transfer is abandoned, and only the
nonvolatile store keeps its contents. The lost state is given the values of a restart, with the PWM level 0
(assumption 14). -/
def powerLoss (s : State) : State :=
  { State.reset with
    phase := .off
    se := { restartSe with port := .idle, pwm := 0 }
    nv := { s.nv with write := none }
    orderCount := s.orderCount
    pending := s.pending }

/-- The store rises to 5.0 V (R138): with the mark present its clearing write begins, otherwise the restart is COLD. -/
def powerUp (sample : Raw) (s : State) : State :=
  match s.phase with
  | .off =>
    if s.nv.markPresent then beginWrite .restart .clearMark { s with phase := .starting }
    else performRestart .cold sample s
  | .starting => s
  | .running => s

/-- The write that clears the mark completes, and the WARM restart follows (R138). -/
def markClearDone (sample : Raw) (s : State) : State :=
  match s.nv.write with
  | some (.restart, job) => performRestart .warm sample (landWrite job s)
  | some (.background, _) => s
  | some (.rewrite, _) => s
  | some (.pending, _) => s
  | some (.save, _) => s
  | none => s

/-! ### The writes of a pending restart (R140, R141) -/

/-- After the Odometer write the restart is performed (R140). A restart that DOWN has abandoned gives way to the save,
of which the write counts as the ODOMETER write (R140, assumption 23). -/
def pendingOdometerDone (sample : Raw) (s : State) : State :=
  match s.ps.pendingRestart with
  | some kind => performRestart kind sample s
  | none => if s.ps.stage = .odometer then beginRecord s else nextWrite s

/-- A write of a pending restart has completed. -/
def pendingAdvance (sample : Raw) (job : NvJob) (s : State) : State :=
  match job with
  | .odometer _ => pendingOdometerDone sample s
  | .slot _ _ => nextWrite s
  | .record _ => s
  | .mark => s
  | .clearMark => s

/-- A persist or odometer write of a pending restart completes (R140). -/
def pendingRestartWriteDone (sample : Raw) (s : State) : State :=
  match s.nv.write with
  | some (.pending, job) => pendingAdvance sample job (persistLanded job (landWrite job s))
  | some (.background, _) => s
  | some (.rewrite, _) => s
  | some (.save, _) => s
  | some (.restart, _) => s
  | none => s

end Sys2Proof.Machine
end

