-- ==== Sys2Proof/Machine/Control.lean ====
section
/-! DEFINITION. What the owners do with a frame that the Frame Decoder has taken, and their replies (chapters 9 and 10,
R140, R150 to R157). -/

namespace Sys2Proof.Machine

/-! ### Claim and release (R161 to R163) -/

/-- A CLAIM of a throttle that is not the Driver succeeds (R161): there is no Driver, the Driver is LOST, or it is a
permitted steal. -/
def claimSucceeds (s : State) (steal : Bool) : Bool :=
  driverEntry s == none || (driverLost s || (steal && setting s 57 == 1))

/-- CLAIM (R161). -/
def claim (sender address : Nat) (steal : Bool) (s : State) : State :=
  if isDriver s sender then
    queueReply sender (.ack kindClaim) (setRole sender (.driver (claimScope s address) false) s)
  else if claimSucceeds s steal then
    queueReply sender (.ack kindClaim) (becomeDriver sender (claimScope s address) s)
  else queueReply sender (.refused kindClaim .driverHeld) s

/-- The Release action (R163): CONTINUE or STOP. -/
def releaseAction (s : State) : State := if setting s 56 = 1 then setTarget 0 s else s

/-- RELEASE (R163). -/
def release (sender : Nat) (s : State) : State :=
  if isDriver s sender then
    queueReply sender (.ack kindRelease) (releaseAction (telemetryStop (momentaryOff (setRole sender .watcher s))))
  else queueReply sender (.refused kindRelease .notDriver) s

/-! ### Drive and func (R164 to R166) -/

/-- Why a DRIVE is refused, or none (R164). DESIGN CHOICE: the tests are made in the rule's order, so a Driver of scope
CONSIST that sends to the loco address is refused IN_CONSIST by the second, where the rule's last sentence says the third
(assumption 37). -/
def driveRefusal (s : State) (sender address : Nat) : Option Reason :=
  if isDriver s sender = false then some .notDriver
  else if address = locoAddress s ∧ consistAddress s ≠ 0 then some .inConsist
  else if atDriverScope s sender address then none
  else some .notDriver

def opposite : Direction → Direction
  | .fwd => .rev
  | .rev => .fwd

/-- The direction of a DRIVE in the locomotive's own sense (R165, step 1). -/
def ownDirection (s : State) (address : Nat) (d : Direction) : Direction :=
  if address = consistAddress s ∧ consistOrientation s = .reversed then opposite d else d

/-- Step 0 empties the Stop latch and clears a set Motor Fault latch (R165, step 2). -/
def driveStop (stepNo : Nat) (s : State) : State :=
  if stepNo = 0 then motorFaultClear (removeCauses (fun _ => StopLatch.empty) s) else s

/-- The target step that a DRIVE gives (R165, step 3). -/
def driveTarget (s : State) (stepNo : Nat) : Nat := if s.ct.latch.held then 0 else min 112 stepNo

/-- The target step of a DRIVE (R165, step 3). -/
def driveGo (stepNo : Nat) (s : State) : State := setTarget (driveTarget s stepNo) s

/-- An accepted DRIVE (R165). -/
def driveAccepted (address stepNo : Nat) (d : Direction) (s : State) : State :=
  driveGo stepNo (driveStop stepNo (setRequested (ownDirection s address d) s))

/-- DRIVE (R164, R165). -/
def drive (sender address stepNo : Nat) (d : Direction) (s : State) : State :=
  match driveRefusal s sender address with
  | some reason => queueReply sender (.refused kindDrive reason) s
  | none => queueReply sender (.ack kindDrive) (driveAccepted address stepNo d s)

/-- What an accepted FUNC does to the function (R66, R166). DESIGN CHOICE: an Address that is both the loco address and the
consist address is taken as the loco address, so the consist-follow flag is not asked for (assumption 41). -/
def funcAccepted (address : Nat) (function : Fin 32) (action : FuncAction) (s : State) : State :=
  if address = locoAddress s ∨ followsConsist s function.val then
    setFunction function (actionResult action (isMomentary s function.val) s.ct.functions[function]) s
  else s

/-- FUNC (R166). -/
def func (sender address : Nat) (function : Fin 32) (action : FuncAction) (s : State) : State :=
  if atDriverScope s sender address then
    queueReply sender (.ack kindFunc) (funcAccepted address function action s)
  else queueReply sender (.refused kindFunc .notDriver) s

/-! ### Stops, resume, credits, query (R151, R152, R170, R171) -/

/-- ESTOP (R170). DEDUCED: the ACK joins when the whole action is done, so a STATUS to a Driver that the stop drops, where it
applies a deferred address change (R172, R181), joins before it, an order that the spec leaves open (assumption 47). -/
def estop (sender : Nat) (s : State) : State := queueReply sender (.ack kindEstop) (addCause withThrottleEstop s)

/-- HALT_ALL (R170). -/
def haltAll (s : State) : State := addCause withBaseHalt s

/-- RESUME_ALL (R171). -/
def resumeAll (s : State) : State := removeCauses afterResume s

/-- QUERY (R151). -/
def query (source : Source) (s : State) : State := answer source .status s

/-! ### Consists (R173, R174) -/

/-- Why a CONSIST_JOIN is refused, or none (R173). -/
def joinRefusal (s : State) (sender address consist : Nat) : Option Reason :=
  if atDriverScope s sender address = false then some .notDriver
  else if 0 < s.slu.r then some .moving
  else if consist = locoAddress s then some .badSetting
  else if canApplyConsist s then none
  else some .busy

/-- CONSIST_JOIN (R173). -/
def consistJoin (sender address consist : Nat) (o : Orientation) (role : ConsistRole) (s : State) : State :=
  match joinRefusal s sender address consist with
  | some reason => queueReply sender (.refused kindConsistJoin reason) s
  | none =>
    queueReply sender (.ack kindConsistJoin) (applyConsist consist (orientationCode o + 2 * roleCode role) s)

/-- Why a CONSIST_LEAVE is refused, or none (R174). -/
def leaveRefusal (s : State) (sender address : Nat) : Option Reason :=
  if atDriverScope s sender address = false then some .notDriver
  else if consistAddress s = 0 then some .notInConsist
  else if 0 < s.slu.r then some .moving
  else if canApplyConsist s then none
  else some .busy

/-- CONSIST_LEAVE (R174). -/
def consistLeave (sender address : Nat) (s : State) : State :=
  match leaveRefusal s sender address with
  | some reason => queueReply sender (.refused kindConsistLeave reason) s
  | none => queueReply sender (.ack kindConsistLeave) (applyConsist 0 0 s)

/-! ### Settings (R167, R177 to R180) -/

/-- The source may use SET and GET (R167): the setup tool, or the Driver at its scope's address. -/
def sourceAdmitted (s : State) : Source → Bool
  | .throttle sender address => atDriverScope s sender address
  | .setupTool => true

/-- The source is a throttle. -/
def onRadio : Source → Bool
  | .throttle _ _ => true
  | .setupTool => false

/-- What the Settings Store makes of a SET (R177, R180). -/
inductive SetVerdict where
  | refused (reason : Reason)
  | deferred
  | applied
  deriving DecidableEq, Repr

/-- A write to index `i` can be deferred (R180). -/
def canDefer (s : State) (i : Nat) : Bool :=
  deferredHas s.ss.deferred i || (decide (s.ss.deferred.length < 8) && persistRoom s)

/-- The tests of R177 on a SET to an index with the table's row `p`. -/
def assignedVerdict (s : State) (onRadio : Bool) (i : Nat) (p : SettingSpec) : SetVerdict :=
  if p.cls = .fixed then .refused .readOnly
  else if onRadio = true ∧ p.cls ≠ .run then .refused .classLocked
  else if s.ss.writeStop = true ∨ s.ss.rewrite ≠ none then .refused .busy
  else if p.cls = .motion ∧ 0 < s.slu.r then (if canDefer s i then .deferred else .refused .busy)
  else if placeFor s i then .applied
  else .refused .busy

/-- The tests of R177 on a SET. -/
def setVerdict (s : State) (onRadio : Bool) (i : Nat) : SetVerdict :=
  match settingSpec i with
  | none => .refused .badSetting
  | some p => assignedVerdict s onRadio i p

/-- The Settings Store takes a SET (R177 to R180). DEDUCED: the ACK is built when the owner has acted, so the ACK to a SET of
the loco address carries the new one (assumption 47). -/
def storeTakesSet (source : Source) (i v : Nat) (s : State) : State :=
  match setVerdict s (onRadio source) i with
  | .refused reason => answer source (.refused kindSet reason) s
  | .deferred =>
    answer source (.ackSet i (clampSetting i v) true)
      (s.modSs fun b => { b with deferred := deferredJoin i (clampSetting i v) b.deferred })
  | .applied => answer source (.ackSet i (clampSetting i v) false) (applySetting i (clampSetting i v) s)

/-- SET (R167, R177). -/
def setCommand (source : Source) (i v : Nat) (s : State) : State :=
  if sourceAdmitted s source then storeTakesSet source i v s
  else answer source (.refused kindSet .notDriver) s

/-- GET (R167, R177). -/
def getCommand (source : Source) (i : Nat) (s : State) : State :=
  if sourceAdmitted s source then
    match settingSpec i with
    | none => answer source (.refused kindGet .badSetting) s
    | some _ => answer source (.value i (setting s i)) s
  else answer source (.refused kindGet .notDriver) s

/-! ### Restart, defaults, identify (R140, R157, R183) -/

/-- RESTART (R140, R157). -/
def restart (s : State) : State :=
  if restartRefused s then serviceSend (.refused kindRestart .busy) s else serviceSend (.ack kindRestart) (acceptRestart s)

/-- The Settings Store refuses a DEFAULTS: the write stop is on, or the rewrite runs (R183). -/
def defaultsRefused (s : State) : Bool := s.ss.writeStop || s.ss.rewrite.isSome

/-- DEFAULTS (R157, R183). -/
def defaults (s : State) : State :=
  if defaultsRefused s then serviceSend (.refused kindDefaults .busy) s
  else serviceSend (.ack kindDefaults) (acceptDefaults s)

/-- IDENTIFY (R157). -/
def identify (s : State) : State :=
  serviceSend
    (.ackIdentify (setting s 480, setting s 481, setting s 482) (locoAddress s) (setting s 504) (setting s 503)) s

/-! ### The owner's action on a frame -/

/-- The whole action of the owner on the command of a taken frame, and its reply (R148, R149). -/
def ownerActsOn : Instr → State → State
  | .claim n a steal => claim n a steal
  | .release n _ => release n
  | .drive n a x d => drive n a x d
  | .func n a f act => func n a f act
  | .estop n _ => estop n
  | .query source => query source
  | .consistJoin n a c o r => consistJoin n a c o r
  | .consistLeave n a => consistLeave n a
  | .set source i v => setCommand source i v
  | .get source i => getCommand source i
  | .haltAll => haltAll
  | .resumeAll => resumeAll
  | .credit n => takeCredit n
  | .restart => restart
  | .defaults => defaults
  | .identify => identify
  | .step | .holdOffExpiry | .telemetryExpiry | .signalLossExpiry | .watcherAgeOut | .controlCycle | .retryExpiry => id
  | .quietCountExpiry | .bridgingLimitExpiry | .bemfReading _ _ _ | .vinReading _ | .vsReading _ => id
  | .thermistorReading _ | .gapEnd | .currentReading _ _ | .laborWindowClose | .sensorFallback | .wheelPulse _ => id
  | .effectsTick | .flickerUpdate _ | .fadeOutEnd _ | .oneShotDone _ | .puffExpiry | .burstExpiry => id
  | .purgeExpiry | .outputSample | .headerReadDone _ | .entryReadDone _ | .refillDone _ | .saveWriteDone => id
  | .powerLoss | .powerUp _ | .markClearDone _ | .persistWriteDone | .pendingRestartWriteDone _ => id
  | .rewriteWriteDone | .radioFrameComplete _ | .serviceFrameComplete _ | .lineBreak | .decoderFree => id
  | .replySent | .serviceReplySent | .radioCharacter _ _ _ | .serviceCharacter _ _ _ | .passageToMarking => id

/-- The throttle that a source is. -/
def throttleId : Source → Option Nat
  | .throttle n _ => some n
  | .setupTool => none

/-- The throttle that sent the command of a frame, or none (R149, R159). -/
def senderOf : Instr → Option Nat
  | .claim n _ _ => some n
  | .release n _ => some n
  | .drive n _ _ _ => some n
  | .func n _ _ _ => some n
  | .estop n _ => some n
  | .query source => throttleId source
  | .consistJoin n _ _ _ _ => some n
  | .consistLeave n _ => some n
  | .set source _ _ => throttleId source
  | .get source _ => throttleId source
  | .haltAll | .resumeAll | .credit _ | .restart | .defaults | .identify => none
  | .step | .holdOffExpiry | .telemetryExpiry | .signalLossExpiry | .watcherAgeOut | .controlCycle => none
  | .retryExpiry | .quietCountExpiry | .bridgingLimitExpiry | .bemfReading _ _ _ | .vinReading _ => none
  | .vsReading _ | .thermistorReading _ | .gapEnd | .currentReading _ _ | .laborWindowClose => none
  | .sensorFallback | .wheelPulse _ | .effectsTick | .flickerUpdate _ | .fadeOutEnd _ | .oneShotDone _ => none
  | .puffExpiry | .burstExpiry | .purgeExpiry | .outputSample | .headerReadDone _ | .entryReadDone _ => none
  | .refillDone _ | .saveWriteDone | .powerLoss | .powerUp _ | .markClearDone _ | .persistWriteDone => none
  | .pendingRestartWriteDone _ | .rewriteWriteDone | .radioFrameComplete _ | .serviceFrameComplete _ => none
  | .lineBreak | .decoderFree | .replySent | .serviceReplySent | .radioCharacter _ _ _ => none
  | .serviceCharacter _ _ _ | .passageToMarking => none

/-- The sender is heard before the frame's own handling begins (R159). -/
def hearSender (i : Instr) (s : State) : State :=
  match senderOf i with
  | some n => hear n s
  | none => s

/-- The owner's action on a checked radio frame (R148, R159). -/
def handleRadio (i : Instr) (s : State) : State := ownerActsOn i (hearSender i s)

/-- The owner's action on a checked service frame: the link is IN_FLIGHT until the reply is built (R156). -/
def handleService (i : Instr) (s : State) : State :=
  ownerActsOn i (s.modService fun b => { b with link := .inFlight })

/-! ### A command sent as such (assumption 7) -/

/-- A throttle's command is the taking of its frame: hearing, check and action; one that no frame can carry fails the
check and has no effect (R149). -/
def takeRadio (i : Instr) (s : State) : State := if i.wellFormed then handleRadio i s else s

/-- A setup tool's command is a frame on the service link: taken when the link is IDLE, otherwise owed a BUSY (R156). -/
def takeTool (kind : Nat) (i : Instr) (s : State) : State :=
  if i.wellFormed then
    match s.service.link with
    | .idle => handleService i s
    | .waiting => s.modService fun b => { b with busyOwed := some kind }
    | .inFlight => s.modService fun b => { b with busyOwed := some kind }
    | .replying => s.modService fun b => { b with busyOwed := some kind }
  else s

/-- A command accepted on both links, by its source. -/
def takeFrom (source : Source) (kind : Nat) (i : Instr) (s : State) : State :=
  match source with
  | .throttle _ _ => takeRadio i s
  | .setupTool => takeTool kind i s

end Sys2Proof.Machine
end

