-- ==== Sys2Proof/Machine/Links.lean ====
section
/-! DEFINITION. The receivers of the two links, the Frame Queue, the receive slot and the Frame Decoder's taking of
frames (R143 to R149, R156). -/

namespace Sys2Proof.Machine

/-! ### The Frame Decoder (R148, R149) -/

/-- The decoder takes the head of the Frame Queue: a frame that passes the check is handled, any other is discarded
silently. -/
def takeRadioFrame (f : Frame) (s : State) : State :=
  match readFrame .radio f with
  | some i => handleRadio i s
  | none => s

/-- The decoder takes the frame in the receive slot; to one that fails no reply is owed, and a BUSY owed is sent
(R156). -/
def takeServiceFrame (f : Frame) (s : State) : State :=
  let s := s.modService fun b => { b with slot := none }
  match readFrame .service f with
  | some i => handleService i s
  | none => serviceNext s

/-- The decoder is occupied from a taking on, and has served this link last. -/
def occupy (link : Link) (s : State) : State := s.modDecoder fun _ => ⟨true, link⟩

/-- A decoder that is not occupied takes a waiting frame, from the link it did not serve last where both have one
(R148). -/
def takeNext (s : State) : State :=
  if s.decoder.occupied then s
  else
    match s.radio.frames, s.service.slot with
    | [], none => s
    | f :: rest, none => takeRadioFrame f (occupy .radio (s.modRadio fun b => { b with frames := rest }))
    | [], some g => takeServiceFrame g (occupy .service s)
    | f :: rest, some g =>
      match s.decoder.lastServed with
      | .service => takeRadioFrame f (occupy .radio (s.modRadio fun b => { b with frames := rest }))
      | .radio => takeServiceFrame g (occupy .service s)

/-- The decoder's occupation ends (R148). -/
def decoderFree (s : State) : State :=
  if s.decoder.occupied then takeNext (s.modDecoder fun d => { d with occupied := false }) else s

/-! ### Frames passed on (R147, R156) -/

/-- A received frame joins the Frame Queue, or is lost to a full one (R147). -/
def radioFramePassed (f : Frame) (s : State) : State :=
  if s.radio.frames.length < 4 then takeNext (s.modRadio fun b => { b with frames := b.frames ++ [f] })
  else s.modRadio fun b => { b with overrun := true }

/-- A received frame goes into the receive slot, or is owed a BUSY (R156). -/
def serviceFramePassed (f : Frame) (s : State) : State :=
  match s.service.link with
  | .idle => takeNext (s.modService fun b => { b with slot := some f, link := .waiting })
  | .waiting => s.modService fun b => { b with busyOwed := some f.kind }
  | .inFlight => s.modService fun b => { b with busyOwed := some f.kind }
  | .replying => s.modService fun b => { b with busyOwed := some f.kind }

/-! ### Receivers (R143 to R145) -/

/-- The bytes of a partial frame as numbers. -/
def byteValues (bs : List Byte) : List Nat := bs.map (·.toNat)

/-- The bytes of a frame sum to 0 mod 256 (R144). -/
def sumGood (bs : List Byte) : Bool := (byteValues bs).sum % 256 == 0

/-- The partial frame holds its Length, and `n` bytes make it complete (R144). -/
def completeAt (bs : List Byte) (n : Nat) : Bool := 6 ≤ n && n == (byteValues bs).getD 4 0 + 6

/-- The filter keeps a frame with this Kind, Sender and Address (R145). -/
def filterKeeps (s : State) (kind sender address : Nat) : Bool :=
  address == locoAddress s || ((consistAddress s != 0 && address == consistAddress s) ||
    (address == 0 && (((kind == kindHaltAll || kind == kindResumeAll) && sender == 60) ||
      (kind == kindCredit && sender == 0))))

/-- The filter's judgement of a partial frame of four bytes (R145). DESIGN CHOICE (assumption 44): the address settings
are read as they stand at the fourth byte, also when one was applied between the frame's first byte and its fourth. -/
def filterPartial (s : State) (bs : List Byte) : Bool :=
  let v := byteValues bs
  filterKeeps s (v.getD 0 0) (v.getD 1 0) (fieldWord (v.getD 2 0) (v.getD 3 0))

def radioRx (rx : RxState) (bs : List Byte) (s : State) : State :=
  s.modRadio fun b => { b with rx := rx, partialFrame := bs }

def serviceRx (rx : RxState) (bs : List Byte) (s : State) : State :=
  s.modService fun b => { b with rx := rx, partialFrame := bs }

/-- A complete radio frame: passed on with a good sum, discarded silently otherwise (R144). -/
def radioComplete (bs : List Byte) (s : State) : State :=
  let s := radioRx .hunting [] s
  if sumGood bs then radioFramePassed (frameOfBytes (byteValues bs)) s else s

/-- A complete service frame (R144). -/
def serviceComplete (bs : List Byte) (s : State) : State :=
  let s := serviceRx .hunting [] s
  if sumGood bs then serviceFramePassed (frameOfBytes (byteValues bs)) s else s

/-- A byte joins the partial frame of the radio receiver (R144, R145). -/
def radioByte (data : Byte) (s : State) : State :=
  let bs := s.radio.partialFrame ++ [data]
  if bs.length = 4 ∧ filterPartial s bs = false then radioRx .ignoring [] s
  else if bs.length = 5 ∧ 16 < data.toNat then radioRx .hunting [] s
  else if completeAt bs bs.length then radioComplete bs s
  else radioRx .assembling bs s

/-- A byte joins the partial frame of the service receiver, which has no filter (R144, R145). -/
def serviceByte (data : Byte) (s : State) : State :=
  let bs := s.service.partialFrame ++ [data]
  if bs.length = 5 ∧ 16 < data.toNat then serviceRx .hunting [] s
  else if completeAt bs bs.length then serviceComplete bs s
  else serviceRx .assembling bs s

/-- The receive line stands in the marking state: a spell of spacing has ended (R146). -/
def lineMarking (s : State) : State := s.modRadio fun b => { b with spacing := 0 }

/-- A character on the radio link (R143 to R145): a framing error, a marker byte, or a byte without marker. -/
def radioCharacter (data : Byte) (marker stopOk : Bool) (s : State) : State :=
  if stopOk = false then radioRx .hunting [] s
  else if marker then radioRx .assembling [data] (lineMarking s)
  else
    match s.radio.rx with
    | .hunting => lineMarking s
    | .ignoring => lineMarking s
    | .assembling => radioByte data (lineMarking s)

/-- A character on the service link (R143, R144). -/
def serviceCharacter (data : Byte) (marker stopOk : Bool) (s : State) : State :=
  if stopOk = false then serviceRx .hunting [] s
  else if marker then serviceRx .assembling [data] s
  else
    match s.service.rx with
    | .hunting => s
    | .ignoring => s
    | .assembling => serviceByte data s

/-- The partial frame waits for its check byte alone. -/
def awaitsCheck (rx : RxState) (bs : List Byte) : Bool := rx == .assembling && completeAt bs (bs.length + 1)

/-- The check byte of a kept radio frame arrives (R144; assumption 8). -/
def radioFrameComplete (check : Byte) (s : State) : State :=
  if awaitsCheck s.radio.rx s.radio.partialFrame then radioByte check (lineMarking s) else s

/-- The check byte of a service frame arrives (R144, R156; assumption 8). -/
def serviceFrameComplete (check : Byte) (s : State) : State :=
  if awaitsCheck s.service.rx s.service.partialFrame then serviceByte check s else s

/-! ### Line breaks (R146) -/

/-- The radio line has stood in the spacing state for 22 bit times: once for each spell, LINK_BREAK is added to the Stop
latch (R146, R170). The break's framing error has aborted a partial frame (assumption 13). -/
def lineBreak (s : State) : State :=
  if s.radio.spacing < 22 then
    addCause withLinkBreak (radioRx .hunting [] (s.modRadio fun b => { b with spacing := 22 }))
  else s

/-- The radio line passes to the marking state (R146). -/
def passageToMarking (s : State) : State := lineMarking s

end Sys2Proof.Machine
end

