-- ==== Sys2Proof/Machine/ControlCommands.lean ====
section
/-! DEFINITION. The meanings of the commands that throttles, the base station and the radio module send by frames on the radio link.
Each runs a shared operation of its chapter on a part that runs. -/

namespace Sys2Proof.Machine

/-- CLAIM (R161). -/
def execClaim (sender address : Nat) (steal : Bool) (s : State) : Result :=
  running (takeRadio (.claim sender address steal)) s

/-- RELEASE (R163). -/
def execRelease (sender address : Nat) (s : State) : Result := running (takeRadio (.release sender address)) s

/-- DRIVE (R164, R165). -/
def execDrive (sender address stepNo : Nat) (direction : Direction) (s : State) : Result :=
  running (takeRadio (.drive sender address stepNo direction)) s

/-- FUNC (R166). -/
def execFunc (sender address : Nat) (function : Fin 32) (action : FuncAction) (s : State) : Result :=
  running (takeRadio (.func sender address function action)) s

/-- ESTOP (R170). -/
def execEstop (sender address : Nat) (s : State) : Result := running (takeRadio (.estop sender address)) s

/-- CONSIST_JOIN (R173). -/
def execConsistJoin (sender address consist : Nat) (orientation : Orientation) (role : ConsistRole) (s : State) : Result :=
  running (takeRadio (.consistJoin sender address consist orientation role)) s

/-- CONSIST_LEAVE (R174). -/
def execConsistLeave (sender address : Nat) (s : State) : Result :=
  running (takeRadio (.consistLeave sender address)) s

/-- HALT_ALL (R170). -/
def execHaltAll (s : State) : Result := running (takeRadio .haltAll) s

/-- RESUME_ALL (R171). -/
def execResumeAll (s : State) : Result := running (takeRadio .resumeAll) s

/-- CREDIT (R152). -/
def execCredit (n : Nat) (s : State) : Result := running (takeRadio (.credit n)) s

end Sys2Proof.Machine
end

