-- ==== Sys2Proof/Machine/EffectCommands.lean ====
section
/-! DEFINITION. The meanings of the commands of the light generators and the smoke timers.
Each runs a shared operation of its chapter on a part that runs. -/

namespace Sys2Proof.Machine

/-- EFFECTS_TICK (R75). -/
def execEffectsTick (s : State) : Result := running effectsTick s

/-- FLICKER_UPDATE (R78). -/
def execFlickerUpdate (output : Fin 8) (s : State) : Result := running (flickerUpdate output) s

/-- FADE_OUT_END (R74). -/
def execFadeOutEnd (output : Fin 8) (s : State) : Result := running (fadeOutEnd output) s

/-- ONE_SHOT_DONE (R81). -/
def execOneShotDone (output : Fin 8) (s : State) : Result := running (oneShotDone output) s

/-- PUFF_EXPIRY (R94). -/
def execPuffExpiry (s : State) : Result := running puffExpiry s

/-- BURST_EXPIRY (R95). -/
def execBurstExpiry (s : State) : Result := running burstExpiry s

/-- PURGE_EXPIRY (R96). -/
def execPurgeExpiry (s : State) : Result := running purgeExpiry s

end Sys2Proof.Machine
end

