-- ==== Sys2Proof/Machine/LinkCommands.lean ====
section
/-! DEFINITION. The meanings of the commands of the two link ports and the Frame Decoder.
Each runs a shared operation of its chapter on a part that runs. -/

namespace Sys2Proof.Machine

/-- RADIO_FRAME_COMPLETE (R144). -/
def execRadioFrameComplete (check : Byte) (s : State) : Result := running (radioFrameComplete check) s

/-- SERVICE_FRAME_COMPLETE (R156). -/
def execServiceFrameComplete (check : Byte) (s : State) : Result := running (serviceFrameComplete check) s

/-- LINE_BREAK (R146). -/
def execLineBreak (s : State) : Result := running lineBreak s

/-- DECODER_FREE (R148). -/
def execDecoderFree (s : State) : Result := running decoderFree s

/-- REPLY_SENT (R154). -/
def execReplySent (s : State) : Result := running replySent s

/-- SERVICE_REPLY_SENT (R156). -/
def execServiceReplySent (s : State) : Result := running serviceReplySent s

/-- RADIO_CHARACTER (R143). -/
def execRadioCharacter (data : Byte) (marker stopOk : Bool) (s : State) : Result :=
  running (radioCharacter data marker stopOk) s

/-- SERVICE_CHARACTER (R143). -/
def execServiceCharacter (data : Byte) (marker stopOk : Bool) (s : State) : Result :=
  running (serviceCharacter data marker stopOk) s

/-- PASSAGE_TO_MARKING (R146). -/
def execPassageToMarking (s : State) : Result := running passageToMarking s

end Sys2Proof.Machine
end

