-- ==== Sys2Proof/Machine/MeasureCommands.lean ====
section
/-! DEFINITION. The meanings of the commands of the Measurement Scanner, the gap end and the Motion Tracker.
Each runs a shared operation of its chapter on a part that runs. -/

namespace Sys2Proof.Machine

/-- BEMF_READING (R23, R24). -/
def execBemfReading (which : Fin 3) (polarity : Direction) (raw : Raw) (s : State) : Result :=
  running (bemfReading which polarity raw) s

/-- VIN_READING (R126). -/
def execVinReading (raw : Raw) (s : State) : Result := running (vinReading raw) s

/-- VS_READING (R129). -/
def execVsReading (raw : Raw) (s : State) : Result := running (vsReading raw) s

/-- THERMISTOR_READING (R89). -/
def execThermistorReading (raw : Raw) (s : State) : Result := running (thermistorReading raw) s

/-- GAP_END (R27). -/
def execGapEnd (s : State) : Result := running gapEnd s

/-- CURRENT_READING (R35, R36). -/
def execCurrentReading (which : Fin 2) (raw : Raw) (s : State) : Result := running (currentReading which raw) s

/-- LABOR_WINDOW_CLOSE (R58). -/
def execLaborWindowClose (s : State) : Result := running laborWindowClose s

/-- SENSOR_FALLBACK (R54). -/
def execSensorFallback (s : State) : Result := running sensorFallback s

/-- WHEEL_PULSE (R52). -/
def execWheelPulse (time : Nat) (s : State) : Result := running (wheelPulse time) s

end Sys2Proof.Machine
end

