-- ==== Sys2Proof/Machine/PowerCommands.lean ====
section
/-! DEFINITION. The meanings of the commands of the supply monitor and the completions of the nonvolatile writes.
Each runs a shared operation of its chapter on a part that runs. -/

namespace Sys2Proof.Machine

/-- SAVE_WRITE_DONE (R135). -/
def execSaveWriteDone (s : State) : Result := running saveWriteDone s

/-- POWER_LOSS (R127); it acts in every phase. -/
def execPowerLoss (s : State) : Result := .next (powerLoss s)

/-- POWER_UP (R138); it acts on a part that is off. -/
def execPowerUp (sample : Raw) (s : State) : Result := .next (powerUp sample s)

/-- MARK_CLEAR_DONE (R138); the write can be in transfer before the part runs. -/
def execMarkClearDone (sample : Raw) (s : State) : Result := .next (markClearDone sample s)

/-- PERSIST_WRITE_DONE (R182). -/
def execPersistWriteDone (s : State) : Result := running persistWriteDone s

/-- PENDING_RESTART_WRITE_DONE (R140). -/
def execPendingRestartWriteDone (sample : Raw) (s : State) : Result := running (pendingRestartWriteDone sample) s

/-- REWRITE_WRITE_DONE (R183). -/
def execRewriteWriteDone (s : State) : Result := running rewriteWriteDone s

end Sys2Proof.Machine
end

