-- ==== Sys2Proof/Machine/SettingCommands.lean ====
section
/-! DEFINITION. The meanings of the commands accepted on both links, and those of the setup tool.
Each runs a shared operation of its chapter on a part that runs. -/

namespace Sys2Proof.Machine

/-- QUERY (R151). -/
def execQuery (source : Source) (s : State) : Result := running (takeFrom source kindQuery (.query source)) s

/-- SET (R177). -/
def execSet (source : Source) (index value : Nat) (s : State) : Result :=
  running (takeFrom source kindSet (.set source index value)) s

/-- GET (R177). -/
def execGet (source : Source) (index : Nat) (s : State) : Result :=
  running (takeFrom source kindGet (.get source index)) s

/-- RESTART (R140). -/
def execRestart (s : State) : Result := running (takeTool kindRestart .restart) s

/-- DEFAULTS (R183). -/
def execDefaults (s : State) : Result := running (takeTool kindDefaults .defaults) s

/-- IDENTIFY (R157). -/
def execIdentify (s : State) : Result := running (takeTool kindIdentify .identify) s

end Sys2Proof.Machine
end

