-- ==== Sys2Proof/Machine/SoundCommands.lean ====
section
/-! DEFINITION. The meanings of the commands of the Sound Engine: the output sample and the completions of the reads of the sample memory.
Each runs a shared operation of its chapter on a part that runs. -/

namespace Sys2Proof.Machine

/-- OUTPUT_SAMPLE (R118). -/
def execOutputSample (s : State) : Result := running outputSample s

/-- HEADER_READ_DONE (R101). -/
def execHeaderReadDone (bytes : Vector Byte 64) (s : State) : Result := running (headerReadDone bytes) s

/-- ENTRY_READ_DONE (R112). -/
def execEntryReadDone (bytes : Vector Byte 16) (s : State) : Result := running (entryReadDone bytes) s

/-- REFILL_DONE (R117). -/
def execRefillDone (bytes : Vector Byte 32) (s : State) : Result := running (refillDone bytes) s

end Sys2Proof.Machine
end

