-- ==== Sys2Proof/Machine/TimerCommands.lean ====
section
/-! DEFINITION. The meanings of the commands of the shared timers: the step timer, the control-cycle timer and what runs out with them.
Each runs a shared operation of its chapter on a part that runs. -/

namespace Sys2Proof.Machine

/-- STEP (R1). -/
def execStep (s : State) : Result := running stepTimer s

/-- HOLD_OFF_EXPIRY (R9). -/
def execHoldOffExpiry (s : State) : Result := running holdOffExpiry s

/-- TELEMETRY_EXPIRY (R155). -/
def execTelemetryExpiry (s : State) : Result := running telemetryExpiry s

/-- SIGNAL_LOSS_EXPIRY (R168). -/
def execSignalLossExpiry (s : State) : Result := running signalLossExpiry s

/-- WATCHER_AGE_OUT (R160). -/
def execWatcherAgeOut (s : State) : Result := running watcherAgeOut s

/-- CONTROL_CYCLE (R22). -/
def execControlCycle (s : State) : Result := running controlCycle s

/-- RETRY_EXPIRY (R38). -/
def execRetryExpiry (s : State) : Result := running retryExpiry s

/-- QUIET_COUNT_EXPIRY (R39). -/
def execQuietCountExpiry (s : State) : Result := running quietExpiry s

/-- BRIDGING_LIMIT_EXPIRY (R130). -/
def execBridgingLimitExpiry (s : State) : Result := running bridgingExpiry s

end Sys2Proof.Machine
end

