-- ==== Sys2Proof/Machine/Dispatch.lean ====
section
/-! DEFINITION. The dispatch: one arm for each command, each a direct call of the command's meaning. -/

namespace Sys2Proof.Machine

def exec (i : Instr) (s : State) : Host.Outcome State Fault Refusal :=
  match i with
  | .step => Sys2Proof.Machine.execStep s
  | .holdOffExpiry => Sys2Proof.Machine.execHoldOffExpiry s
  | .telemetryExpiry => Sys2Proof.Machine.execTelemetryExpiry s
  | .signalLossExpiry => Sys2Proof.Machine.execSignalLossExpiry s
  | .watcherAgeOut => Sys2Proof.Machine.execWatcherAgeOut s
  | .controlCycle => Sys2Proof.Machine.execControlCycle s
  | .retryExpiry => Sys2Proof.Machine.execRetryExpiry s
  | .quietCountExpiry => Sys2Proof.Machine.execQuietCountExpiry s
  | .bridgingLimitExpiry => Sys2Proof.Machine.execBridgingLimitExpiry s
  | .bemfReading which polarity raw => Sys2Proof.Machine.execBemfReading which polarity raw s
  | .vinReading raw => Sys2Proof.Machine.execVinReading raw s
  | .vsReading raw => Sys2Proof.Machine.execVsReading raw s
  | .thermistorReading raw => Sys2Proof.Machine.execThermistorReading raw s
  | .gapEnd => Sys2Proof.Machine.execGapEnd s
  | .currentReading which raw => Sys2Proof.Machine.execCurrentReading which raw s
  | .laborWindowClose => Sys2Proof.Machine.execLaborWindowClose s
  | .sensorFallback => Sys2Proof.Machine.execSensorFallback s
  | .wheelPulse time => Sys2Proof.Machine.execWheelPulse time s
  | .effectsTick => Sys2Proof.Machine.execEffectsTick s
  | .flickerUpdate output => Sys2Proof.Machine.execFlickerUpdate output s
  | .fadeOutEnd output => Sys2Proof.Machine.execFadeOutEnd output s
  | .oneShotDone output => Sys2Proof.Machine.execOneShotDone output s
  | .puffExpiry => Sys2Proof.Machine.execPuffExpiry s
  | .burstExpiry => Sys2Proof.Machine.execBurstExpiry s
  | .purgeExpiry => Sys2Proof.Machine.execPurgeExpiry s
  | .outputSample => Sys2Proof.Machine.execOutputSample s
  | .headerReadDone bytes => Sys2Proof.Machine.execHeaderReadDone bytes s
  | .entryReadDone bytes => Sys2Proof.Machine.execEntryReadDone bytes s
  | .refillDone bytes => Sys2Proof.Machine.execRefillDone bytes s
  | .saveWriteDone => Sys2Proof.Machine.execSaveWriteDone s
  | .powerLoss => Sys2Proof.Machine.execPowerLoss s
  | .powerUp sample => Sys2Proof.Machine.execPowerUp sample s
  | .markClearDone sample => Sys2Proof.Machine.execMarkClearDone sample s
  | .persistWriteDone => Sys2Proof.Machine.execPersistWriteDone s
  | .pendingRestartWriteDone sample => Sys2Proof.Machine.execPendingRestartWriteDone sample s
  | .rewriteWriteDone => Sys2Proof.Machine.execRewriteWriteDone s
  | .radioFrameComplete check => Sys2Proof.Machine.execRadioFrameComplete check s
  | .serviceFrameComplete check => Sys2Proof.Machine.execServiceFrameComplete check s
  | .lineBreak => Sys2Proof.Machine.execLineBreak s
  | .decoderFree => Sys2Proof.Machine.execDecoderFree s
  | .claim sender address steal => Sys2Proof.Machine.execClaim sender address steal s
  | .release sender address => Sys2Proof.Machine.execRelease sender address s
  | .drive sender address stepNo direction => Sys2Proof.Machine.execDrive sender address stepNo direction s
  | .func sender address function action => Sys2Proof.Machine.execFunc sender address function action s
  | .estop sender address => Sys2Proof.Machine.execEstop sender address s
  | .query source => Sys2Proof.Machine.execQuery source s
  | .consistJoin sender address consist orientation role => Sys2Proof.Machine.execConsistJoin sender address consist orientation role s
  | .consistLeave sender address => Sys2Proof.Machine.execConsistLeave sender address s
  | .set source index value => Sys2Proof.Machine.execSet source index value s
  | .get source index => Sys2Proof.Machine.execGet source index s
  | .haltAll => Sys2Proof.Machine.execHaltAll s
  | .resumeAll => Sys2Proof.Machine.execResumeAll s
  | .credit n => Sys2Proof.Machine.execCredit n s
  | .restart => Sys2Proof.Machine.execRestart s
  | .defaults => Sys2Proof.Machine.execDefaults s
  | .identify => Sys2Proof.Machine.execIdentify s
  | .replySent => Sys2Proof.Machine.execReplySent s
  | .serviceReplySent => Sys2Proof.Machine.execServiceReplySent s
  | .radioCharacter data marker stopOk => Sys2Proof.Machine.execRadioCharacter data marker stopOk s
  | .serviceCharacter data marker stopOk => Sys2Proof.Machine.execServiceCharacter data marker stopOk s
  | .passageToMarking => Sys2Proof.Machine.execPassageToMarking s

end Sys2Proof.Machine
end

