-- ==== Sys2Proof/Safety.lean ====
section
/-! DEFINITION. What a safe state of the part is: the promises that the manual makes of the whole machine, and the
capacities and ranges that it gives the collections and counters. Each is an invariant: every step keeps it. -/

namespace Sys2Proof.Machine

/-! ### Motion -/

/-- T_eff is the value that its inputs give as they stand (R2). -/
def TargetCurrent (s : State) : Prop := s.slu.tEff = effectiveTarget s

/-- While the Stop latch holds any cause, the target step, R and the motor duty are 0 (R16, R170). -/
def LatchHoldsStill (s : State) : Prop :=
  s.ct.latch.held = true → s.ct.target = 0 ∧ s.slu.r = 0 ∧ s.ml.d = 0

/-- The duty is 0 in every bridge state but DRIVE (R27, R30, R37). -/
def UndrivenIsOff (s : State) : Prop := s.ml.bridge ≠ .drive → s.ml.d = 0

/-- A locomotive that stands has the travel direction that was asked for (R15). -/
def StandsTurned (s : State) : Prop := s.slu.r = 0 → s.slu.travel = s.ct.requested

/-- The motion promises together; the target step is one of 0..112 (chapter 9). -/
structure MotionSafe (s : State) : Prop where
  reach : s.ct.target ≤ 112
  current : TargetCurrent s
  still : LatchHoldsStill s
  undriven : UndrivenIsOff s
  turned : StandsTurned s

/-! ### The Motion Record -/

/-- The ranges of the Motion Record (section 3.1): PA below Q, Chuff below C (R48), the wrapping counts, an open window
below 16 (R57), L a byte. -/
structure ChainSafe (s : State) : Prop where
  phase : s.mt.pa < setting s 16
  beat : s.mt.chuff < setting s 17
  turns : s.mt.revolution < 256
  window : s.mt.windowCount < 16
  labor : s.mt.l ≤ 255

/-! ### The Function Map -/

/-- What the Function Mapper holds is what an evaluation of the state as it stands would find: the entries' activity
(R68, R69), the modifiers and the smoke enable (R71), and the run-permit inputs (R72). -/
structure MapCurrent (s : State) : Prop where
  entries : ∀ e : Fin 24, s.fe.active[e] = entryActive s e
  shunt : s.fe.shunt = anyActive s targetShunt
  brake : s.fe.brake = anyActive s targetBrake
  momentumOff : s.fe.momentumOff = anyActive s targetMomentumOff
  dimmer : s.fe.dimmer = anyActive s targetDimmer
  mute : s.fe.mute = anyActive s targetMute
  smokeEnable : s.fe.smokeEnable = anyActive s targetSmoke
  permitRequired : s.fe.permitRequired = permitRequiredNow s
  permitGranted : s.fe.permitGranted = permitGrantedNow s

/-- What the Function Mapper has last reported is what the owners act on: the run permit by its inputs (R7, R8, R10), with
a hold-off timer that is short of its setting while it runs (R9), MUTE (R71), and a smoke state OFF exactly while the
enable is off (R86, R87), but that after the order to switch the outputs off a turn-off may not be taken (R98). -/
structure ReportsCurrent (s : State) : Prop where
  grantedRequired : s.fe.permitGranted = true → s.fe.permitRequired = true
  notRequired : s.fe.permitRequired = false → s.slu.permit = .notRequired ∧ s.slu.holdOff = none
  withheld : s.fe.permitRequired = true → s.fe.permitGranted = false → s.slu.permit = .withheld ∧ s.slu.holdOff = none
  granted : s.fe.permitGranted = true →
    (s.slu.permit = .granted ∧ s.slu.holdOff = none) ∨
      (s.slu.permit = .holding ∧ ∃ n, s.slu.holdOff = some n ∧ n < setting s 10)
  mute : s.se.mute = s.fe.mute
  smokeOn : s.fe.smokeEnable = true → s.sc.smoke ≠ .off
  smokeOff : s.fe.smokeEnable = false → s.ps.outputsOff = false → s.sc.smoke = .off

/-! ### Lights -/

/-- The Function Mapper's record with every final brightness formed from the waveform value, whole or halved, or 0 after
the order to switch the outputs off (R83), and with the light current estimate of these brightnesses (R84). -/
def litFe (halved : Bool) (s : State) : Fe :=
  let shown : Nat → Nat := fun value => if s.ps.outputsOff then 0 else if halved then value / 2 else value
  let share : Fin 8 → Nat := fun k => shown s.fe.gens[k].value * setting s (24 + k.val) / 255
  { s.fe with
    gens := s.fe.gens.map fun g => { g with brightness := shown g.value }
    lightEstimate := share 0 + share 1 + share 2 + share 3 + share 4 + share 5 + share 6 + share 7 }

/-- Every final brightness, and the light current estimate, are those of the waveform values, the power state and the rated
currents as they stand (R83, R84). -/
def LightsCurrent (s : State) : Prop :=
  s.fe = litFe (decide (s.ps.power ≠ .normal ∧ s.ps.power ≠ .bridging)) s

/-! ### Smoke -/

/-- `sc` and `se` are the Smoke Controller and the Sound Engine after the smoke unit of `s`, holding `c`, has become `st`,
PREHEAT or READY, with the entry tests of R90 and the demand, duty and fan of the state they leave (R86, R88, R92, R95). -/
def EntersHeating (s : State) (c : Sc) (st : SmokeState) (sc : Sc) (se : Se) : Prop :=
  let target : Int := setting s 32
  (c.temp = none → sc = { c with smoke := st, demand := 0, duty := 0 } ∧ se = s.se) ∧
    ∀ temp, c.temp = some temp →
      let demand := if target ≤ temp then 0 else min 255 ((target - temp).toNat * setting s 34)
      let ready := st = .ready ∨ target - 10 ≤ temp
      let motor := setting s 19 = 1 ∧ s.ps.outputsOff = false
      (c.thermFault = true ∨ target + setting s 33 < temp →
        sc = { c with smoke := .dry, demand := 0, duty := 0, fan := 0, puff := none } ∧
        se = (raiseCue .smokeDry none s).se) ∧
      (c.thermFault = false → temp ≤ target + setting s 33 →
        sc =
          { c with
            smoke := if ready then .ready else st, demand := demand
            duty := if s.ps.outputsOff then 0 else min demand c.cap
            fan :=
              if ready ∧ motor then
                (if c.burst.isSome then 255 else min 255 (setting s 39 + s.mt.l * setting s 40 / 255))
              else c.fan } ∧
        se = s.se)

/-- The smoke unit at the return of the input (R88): SHED begins to heat, READY within 10 of the target and PREHEAT
otherwise; in every other state nothing changes. -/
def SmokeReturns (s : State) (sc : Sc) (se : Se) : Prop :=
  (s.sc.smoke = .shed →
    EntersHeating s s.sc
      (match s.sc.temp with
        | some temp => if (setting s 32 : Int) - 10 ≤ temp then .ready else .preheat
        | none => .preheat) sc se) ∧
  (s.sc.smoke ≠ .shed → sc = s.sc ∧ se = s.se)

/-- The heater is driven in PREHEAT and READY alone, and these states are held in NORMAL alone (R88, R92, R98). -/
structure HeaterSafe (s : State) : Prop where
  dutyHeats : s.sc.duty ≠ 0 → s.sc.smoke.heats = true
  heatsNormal : s.sc.smoke.heats = true → s.ps.power = .normal
  withinCap : s.sc.duty ≤ s.sc.cap
  offWhenDown : s.ps.outputsOff = true → s.sc.duty = 0

/-! ### Sound -/

/-- The Sound Engine's capacities: 16 cues of which at most one is a chuff cue (R105), 32 samples in a buffer, and at
most 16 while a refill is asked for (R116, R117). -/
structure SoundBounded (b : Se) : Prop where
  cues : b.queue.length ≤ 16
  oneChuff : (b.queue.filter Cue.isChuff).length ≤ 1
  samples : ∀ i : Fin 8, b.voices[i].buffer.length ≤ 32
  room : ∀ i : Fin 8, b.voices[i].refill ≠ .none → b.voices[i].buffer.length ≤ 16

/-- The conditions of a refill request but for the refill's own state (R116): the voice sounds, holds 16 or fewer samples,
and samples remain to be fetched. -/
def Voice.AsksRefill (v : Voice) : Prop :=
  (v.st = .playing ∨ v.st = .looping ∨ v.st = .releasing) ∧ v.buffer.length ≤ 16 ∧ (v.loopOn = true ∨ v.fetch < v.length)

/-- `after` is a voice that has tested its refill request (R116): it has a refill where the conditions hold, and one that had
none has none otherwise. -/
def RefillTested (before after : Voice) : Prop :=
  (after.AsksRefill → after.refill ≠ .none) ∧ (before.refill = .none → ¬ after.AsksRefill → after.refill = .none)

/-- A refill that the port grants a voice is of the addresses `next`, of which `ahead` come before a wrap: the next 16
samples from its fetch point in play order, or fewer at the end of the sound (R100, R116). -/
def RefillOf (v : Voice) (next : List Nat) (ahead : Nat) : Prop :=
  (v.loopOn = false →
    next = ((List.range (min 16 (v.length - v.fetch))).map fun n => v.start + 2 * (v.fetch + n)) ∧
      ahead = min 16 (v.length - v.fetch)) ∧
  (v.loopOn = true → v.loopStart < v.loopEnd → v.fetch < v.loopEnd →
    next = ((List.range 16).map fun n =>
      v.start + 2 *
        (if v.fetch + n < v.loopEnd then v.fetch + n
         else v.loopStart + (v.fetch + n - v.loopEnd) % (v.loopEnd - v.loopStart))) ∧
      ahead = min 16 (v.loopEnd - v.fetch))

/-- `b` is the engine after an idle port, with `last` the last served voice, an entry read waiting or not and the refills of
the voices `waits` pending, has granted a read (R115): the entry read, else the first pending refill from the voice after
the last served one on, wrapping from 7 to 0, else none. -/
structure PortServes (last : Fin 8) (entry : Option Nat) (waits : Fin 8 → Prop) (b : Se) : Prop where
  entryTaken : b.entryWaiting = none
  entryFirst : ∀ a, entry = some a →
    b.port = .entry a ∧ b.lastServed = last ∧ ∀ i, waits i → b.voices[i].refill = .pending
  nothing : entry = none → (∀ i, ¬ waits i) → b.port = .idle ∧ b.lastServed = last
  inTurn : entry = none → ∀ d : Fin 8, waits (last + 1 + d) → (∀ e : Fin 8, e < d → ¬ waits (last + 1 + e)) →
    b.lastServed = last + 1 + d ∧ b.voices[last + 1 + d].refill = .inTransfer ∧
      (∀ i, waits i → i ≠ last + 1 + d → b.voices[i].refill = .pending) ∧
      ∃ next ahead, b.port = .refill (last + 1 + d) next b.voices[last + 1 + d].fetch ahead ∧
        RefillOf b.voices[last + 1 + d] next ahead

/-! ### Links -/

/-- The capacities of the Radio Link Port (chapter 8): 4 frames, 8 replies, 15 credits, and one STATUS entry for each
throttle (R147, R152, R153). -/
structure RadioBounded (b : Radio) : Prop where
  frames : b.frames.length ≤ 4
  replies : b.replies.length ≤ 8
  credits : b.credits ≤ 15
  oneStatus : ((b.replies.filter fun p => decide (p.body = .status)).map (·.dest)).Nodup

/-! ### Control Table -/

/-- The entries (R159): at most 4, no throttle twice, at most one DRIVER. -/
structure EntriesOk (es : List Entry) : Prop where
  count : es.length ≤ 4
  distinct : (es.map (·.id)).Nodup
  oneDriver : (es.filter Entry.isDriver).length ≤ 1

/-- A frame whose fields fit their bytes (R143). -/
structure Frame.Fits (f : Frame) : Prop where
  kind : f.kind < 256
  sender : f.sender < 256
  address : f.address < 65536
  length : f.payload.length ≤ 16
  payload : ∀ b ∈ f.payload, b < 256

/-- The characters by which a link brings the bytes of a frame (R143): the marker bit on the first byte alone. -/
def charactersOf (character : Byte → Bool → Bool → Instr) : List Nat → List Instr
  | [] => []
  | b :: bs => character (BitVec.ofNat 8 b) true true :: bs.map fun x => character (BitVec.ofNat 8 x) false true

/-- A MOMENTARY function is ON only while there is a Driver that is not LOST (R65). -/
def MomentaryHeld (s : State) : Prop :=
  ∀ n : Fin 32, s.ct.functions[n] = true → isMomentary s n.val = true →
    (driverEntry s).isSome = true ∧ driverLost s = false

/-! ### Settings -/

/-- Every index of the working copy holds a value of its range, and the copy is in canonical form (R178). -/
structure WorkingOk (w : Store) : Prop where
  canonical : w.wf = true
  inRange : ∀ i, settingInRange i (w.read i) = true

/-- The Settings Store's promises: the working copy (R178), and the capacities of the Deferred List and of the Persist
Queue, with a place kept for each deferred entry and no index twice (R180, R182); the Deferred List is empty while the
locomotive stands (R180); the Odometer and its stored value are 32-bit counts (section 3.1). -/
structure SettingsSafe (s : State) : Prop where
  working : WorkingOk s.ss.working
  deferredValues : ∀ e ∈ s.ss.deferred,
    (settingSpec e.1).map (·.cls) = some .motion ∧ clampSetting e.1 e.2 = e.2
  deferredRoom : s.ss.deferred.length ≤ 8
  deferredDistinct : (s.ss.deferred.map (·.1)).Nodup
  places : s.ss.persist.length + s.ss.deferred.length ≤ 16
  atRest : s.slu.r = 0 → s.ss.deferred = []
  placesDistinct : (s.ss.persist.map (·.index)).Nodup
  odometer : s.mt.odometer < 4294967296
  storedOdometer : s.nv.odometer < 4294967296
  writtenOdometer : ∀ p v, s.nv.write = some (p, .odometer v) → v < 4294967296
  slots : s.nv.slots.wf = true

end Sys2Proof.Machine
end

