-- ==== Sys2Proof/Certificates/Slice0/Obligations.lean ====
section
/-! DEFINITION. The statements for the provers: what the commands of the PZ620 do, by the numbered rules of its
specification, and the promises that every step keeps. -/

open Sys2Proof Sys2Proof.Machine

/-! ### The queue of commands -/

/-- A step takes the command at the front of the queue and runs it on the state with the queue's rest; on an empty
queue the part idles, which is the model's choice (assumption 5). -/
def Obligations.StepTakesFront : Prop :=
  (∀ (c : Instr) (rest : List Instr) (s : State),
    step { s with pending := c :: rest } = exec c { s with pending := rest }) ∧
  ∀ s : State, s.pending = [] → step s = .next s

/-- Every command has an outcome in every state, and none touches the queue. -/
def Obligations.CommandsKeepQueue : Prop :=
  ∀ (c : Instr) (s : State), ∃ t, exec c s = .next t ∧ t.pending = s.pending

/-- While the part does not run, nothing happens but what the supply monitor and the clearing of the mark bring about.
R127 says so of a part that is off; that the same holds in the phase between the power-up and its restart, and which three
commands still act, is the model's choice (assumption 14). So is that a command whose fields lie outside the ranges of R149
fails the check and does nothing (assumption 7). -/
def Obligations.StoppedPartIgnores : Prop :=
  ∀ (c : Instr) (s : State),
    (s.phase ≠ .running → c ≠ .powerLoss → (∀ x, c ≠ .powerUp x) → (∀ x, c ≠ .markClearDone x) →
      exec c s = .next s) ∧
    (c.wellFormed = false → exec c s = .next s)

/-! ### Restarts -/

/-- The reset state is the state after the first power-up of a new part, a COLD restart in NORMAL (R138, R139, R185;
the values it starts from are the model's, assumption 4). -/
def Obligations.ColdRestartIsReset : Prop :=
  ∀ sample : Raw, 70 ≤ sample.toNat * 100 / 1024 →
    exec (.powerUp sample) { State.reset with phase := .off } = .next State.reset

/-- R46: the Motor Loop and the Measurement Scanner after every restart. -/
def Obligations.RestartMotor : Prop :=
  ∀ (kind : RestartKind) (sample : Raw) (s : State),
    (performRestart kind sample s).ml =
      { m := 0, i16 := 0, d := 0, dcap := 1023, bridge := .coast, tripCounter := 0, quiet := none, retry := none,
        fault := false, inGap := true } ∧
    (performRestart kind sample s).scan =
      { bemf1 := 0, bemf2 := 0, bemf3 := 0, median := 0, vin := 0, vs := 0, thermistor := 0, currentA := 0,
        currentB := 0 }

/-- R158: the link ports and the Frame Decoder after every restart. -/
def Obligations.RestartLinks : Prop :=
  ∀ (kind : RestartKind) (sample : Raw) (s : State),
    let t := performRestart kind sample s
    t.radio =
      { rx := .hunting, partialFrame := [], spacing := 0, frames := [], overrun := false, replies := [], credits := 0,
        sending := none,
        telemetry := if (driverEntry t).isSome = true ∧ 0 < setting t 53 then some 0 else none } ∧
    t.service = { rx := .hunting, partialFrame := [], link := .idle, slot := none, reply := none, busyOwed := none } ∧
    t.decoder = { occupied := false, lastServed := .service }

/-- What a restart restores and what it starts afresh: the Power Supervisor (R139), the Speed Law Unit (R21), the Motion
Tracker (R64), the Function Mapper (R85), the Smoke Controller (R99), the Sound Engine (R125), the Control Table (R176) and
the Settings Store with the project ID (R185), each as the first evaluation of the map and the permit it reports leave
them. These are the model's choices: the sound count and the cue table of zeros while CHECKING and the fields of a FREE
voice (assumption 4), the sound and priority 0 of the cues queued while CHECKING (assumption 20), and the place of the
AMBIENT cue of STEAM, first in the Cue Queue (assumption 30). -/
def Obligations.RestartRestores : Prop :=
  ∀ (kind : RestartKind) (sample : Raw) (s : State),
    let t := performRestart kind sample s
    let normal := 70 ≤ sample.toNat * 100 / 1024
    t.phase = .running ∧
    t.ps =
      { power := if normal then .normal else .bridging, lost := 0, back := 0,
        bridging := if normal then none else some 0, allowance := 0, stage := .idle, pendingRestart := none,
        restartKind := kind, outputsOff := false } ∧
    t.mt =
      { pa := 0, chuff := 0, revolution := 0, odometer := s.nv.odometer, windowSum := 0, windowCount := 0, l := 0,
        labor := .light, source := if setting t 18 = 1 then .sensor else .synth, fallback := false, lastPulse := none,
        silent := 0, pulseSeen := false } ∧
    (
      let granting := ∃ e : Fin 24, setting t (258 + 4 * e.val) = 14 ∧
        (setting t (256 + 4 * e.val) = 32 ∨ ∃ n : Fin 32, setting t (256 + 4 * e.val) = n.val ∧ t.ct.functions[n] = true)
      let required := ∃ e : Fin 24, setting t (258 + 4 * e.val) = 14
      let active := fun (e : Fin 24) (target : Nat) => t.fe.active[e] = true ∧ setting t (258 + 4 * e.val) = target
      (t.slu.r = 0 ∧ t.slu.f = 0 ∧ t.slu.travel = t.ct.requested ∧ t.slu.tEff = effectiveTarget t ∧
        (¬ required → t.slu.permit = .notRequired ∧ t.slu.holdOff = none) ∧
        (required → ¬ granting → t.slu.permit = .withheld ∧ t.slu.holdOff = none) ∧
        (granting → setting t 10 ≠ 0 → t.slu.permit = .holding ∧ t.slu.holdOff = some 0) ∧
        (granting → setting t 10 = 0 → t.slu.permit = .granted ∧ t.slu.holdOff = none)) ∧
      (MapCurrent t ∧
        (∀ k : Fin 8,
          ((∀ e, ¬ active e (k.val + 1)) → t.fe.gens[k] = ⟨none, .dark, 0, 0, 0, 0, 0, 0⟩) ∧
          ∀ e, active e (k.val + 1) → (∀ d, d < e → ¬ active d (k.val + 1)) →
            t.fe.gens[k].driving = some e ∧ t.fe.gens[k].st = .running ∧ t.fe.gens[k].run = 0 ∧ t.fe.gens[k].fade = 0) ∧
        ((∀ e (k : Fin 8), ¬ active e (k.val + 1)) → t.fe.noise = 0xACE1#16 ∧ t.fe.lightEstimate = 0)) ∧
      (t.sc.temp = none ∧ t.sc.thermFault = false ∧ t.sc.demand = 0 ∧ t.sc.cap = 0 ∧ t.sc.duty = 0 ∧ t.sc.fan = 0 ∧
        t.sc.puff = none ∧ t.sc.purge = none ∧
        t.sc.burst = (if setting t 19 = 1 ∧ granting then some 0 else none) ∧
        t.sc.smoke = (if ∃ e, active e 10 then (if normal then .preheat else .shed) else .off)) ∧
      (t.se.dir = .checking ∧ t.se.soundCount = 0 ∧ t.se.cueTable = Vector.replicate 16 (0, 0) ∧ t.se.alloc = none ∧
        t.se.entryWaiting = none ∧ t.se.port = .header ∧ t.se.lastServed = 7 ∧ t.se.mute = t.fe.mute ∧
        t.se.output = 0 ∧ t.se.pwm = 512 ∧ (∀ i : Fin 8, t.se.voices[i] = Voice.freed) ∧
        (setting t 19 ≠ 1 → t.se.queue.head? = some ⟨.ambient, 0, 0, .system, none⟩) ∧
        ((∀ e, ¬ active e 9) → ¬ granting →
          t.se.queue =
            (if setting t 19 = 1 then [] else [⟨.ambient, 0, 0, .system, none⟩]) ++
              if normal then [] else [⟨.lowPower, 0, 0, .system, none⟩]))) ∧
    t.ct.latch = ⟨false, false, false, false⟩ ∧
    (kind ≠ .warm → t.ct.entries = [] ∧ t.ct.target = 0 ∧ t.ct.requested = .fwd ∧
      ∀ n : Fin 32, t.ct.functions[n] = false) ∧
    (kind = .warm → t.ct.target = min 112 s.nv.record.target ∧ t.ct.requested = s.nv.record.requested ∧
      (∀ n : Fin 32, t.ct.functions[n] = (s.nv.record.functions[n] && !isMomentary t n.val)) ∧
      (s.nv.record.driver = none → t.ct.entries = []) ∧
      (∀ id, s.nv.record.driver = some (id, .loco) → t.ct.entries = [⟨id, .driver .loco false, 0⟩]) ∧
      ∀ id, s.nv.record.driver = some (id, .consist) →
        t.ct.entries = if consistAddress t = 0 then [] else [⟨id, .driver .consist false, 0⟩]) ∧
    t.ss.deferred = [] ∧ t.ss.persist = [] ∧ t.ss.writeStop = false ∧ t.ss.rewrite = none ∧
    t.nv = { s.nv with write := none } ∧
    (s.nv.slots.wf = true →
      (∀ i, i ≤ 500 → setting t i = clampSetting i (s.nv.slots.read i)) ∧
      setting t 501 = s.nv.odometer / 65536 ∧ setting t 502 = s.nv.odometer % 65536 ∧ setting t 503 = kind.code ∧
      setting t 504 = if s.phase = .running then setting s 504 else 0)

/-- R127: at a loss of power every output is off, a write in transfer is abandoned, and the nonvolatile store keeps its
contents. R138: a power-up finds the mark absent, and restarts COLD, or present, and clears it first; at the completion of
that write the restart is WARM. That MARK_CLEAR_DONE with no write in transfer does nothing is the model's choice
(assumption 24), and so is that POWER_UP of a part that is not off does nothing (assumption 14). -/
def Obligations.PowerLossAndUp : Prop :=
  ∀ (sample : Raw) (s : State),
    (∃ t, exec .powerLoss s = .next t ∧ t.phase = .off ∧ t.nv = { s.nv with write := none } ∧
      bridgeSwitches t = ⟨.off, .off, .off, .off⟩ ∧ (∀ k : Fin 8, t.fe.gens[k].brightness = 0) ∧ t.sc.duty = 0 ∧
      t.sc.fan = 0 ∧ t.se.pwm = 0) ∧
    (s.phase = .off → s.nv.markPresent = false →
      exec (.powerUp sample) s = .next (performRestart .cold sample s)) ∧
    (s.phase = .off → s.nv.markPresent = true →
      exec (.powerUp sample) s =
        .next { s with phase := .starting, nv := { s.nv with write := some (.restart, .clearMark) } }) ∧
    (s.phase ≠ .off → exec (.powerUp sample) s = .next s) ∧
    (s.nv.write = some (.restart, .clearMark) →
      exec (.markClearDone sample) s =
        .next (performRestart .warm sample { s with nv := { s.nv with markPresent := false, write := none } })) ∧
    (s.nv.write = none → exec (.markClearDone sample) s = .next s)

/-! ### Promises that every step keeps -/

/-- R2, R15, R16, R27, R30, R170: every step keeps the motion promises: T_eff is what its inputs give, a held Stop latch
holds target, R and duty at 0, an undriven bridge has duty 0, a standing locomotive has the direction asked for. -/
def Obligations.StepKeepsMotionSafe : Prop := ∀ s t : State, MotionSafe s → step s = .next t → MotionSafe t

/-- R48, R51, R57: every step keeps the Motion Record within its ranges. -/
def Obligations.StepKeepsChainSafe : Prop :=
  ∀ s t : State, SettingsSafe s → ChainSafe s → step s = .next t → ChainSafe t

/-- R68, R69, R71, R72: after every step the map's activity, the modifiers, the smoke enable and the run-permit inputs are
those of the state as it then stands: no event that changes them goes without its evaluation. R7, R8, R9, R10, R71, R86,
R87, R98: the run permit, MUTE and the smoke state are those that the Function Mapper has reported. R83, R84: every final
brightness and the light current estimate follow from the waveform values, the power state and the rated currents. That a
turn-off may be left untaken after the order to switch the outputs off is the model's reading (assumption 22). -/
def Obligations.StepKeepsMapCurrent : Prop :=
  ∀ s t : State, step s = .next t →
    (MapCurrent s → MapCurrent t) ∧ (ReportsCurrent s → ReportsCurrent t) ∧ (LightsCurrent s → LightsCurrent t)

/-- R88, R92, R93, R98: the heater is driven in PREHEAT and READY in NORMAL alone, never above its cap, and not after
the outputs were ordered off. -/
def Obligations.StepKeepsHeaterSafe : Prop := ∀ s t : State, HeaterSafe s → step s = .next t → HeaterSafe t

/-- R105, R116, R117: the Cue Queue and the voices' buffers stay within their capacities. -/
def Obligations.StepKeepsSoundBounded : Prop :=
  ∀ s t : State, SoundBounded s.se → step s = .next t → SoundBounded t.se

/-- R147, R152, R153: the Frame Queue, the Reply Queue and the credits stay within their capacities, with one STATUS for
each throttle. -/
def Obligations.StepKeepsRadioBounded : Prop :=
  ∀ s t : State, RadioBounded s.radio → step s = .next t → RadioBounded t.radio

/-- R159: the Control Table holds at most 4 entries, no throttle twice, and at most one DRIVER; R65: a MOMENTARY function
is ON only while the Control Table holds a Driver that is not LOST. -/
def Obligations.StepKeepsControl : Prop :=
  ∀ s t : State, EntriesOk s.ct.entries → step s = .next t →
    EntriesOk t.ct.entries ∧ (MomentaryHeld s → MomentaryHeld t)

/-- R178, R180, R182: every setting of the working copy lies in its range, and the Deferred List and the Persist Queue
keep their capacities, with a place for each deferred entry, and no deferred entry while R is 0. -/
def Obligations.StepKeepsSettingsSafe : Prop := ∀ s t : State, SettingsSafe s → step s = .next t → SettingsSafe t

/-- The reset state keeps every promise. -/
def Obligations.ResetKeepsPromises : Prop :=
  MotionSafe State.reset ∧ ChainSafe State.reset ∧ MapCurrent State.reset ∧ ReportsCurrent State.reset ∧
    LightsCurrent State.reset ∧ HeaterSafe State.reset ∧
    SoundBounded State.reset.se ∧ RadioBounded State.reset.radio ∧ EntriesOk State.reset.ct.entries ∧
    MomentaryHeld State.reset ∧ SettingsSafe State.reset

/-! ### Frames -/

/-- R143, R149: the frame by which a party sends a command is read back as that command, with every operand at every
value it admits. -/
def Obligations.FrameReadsBack : Prop :=
  ∀ (i : Instr) (link : Link) (f : Frame), i.wellFormed = true → frameOf i = some (link, f) → readFrame link f = some i

/-- R143, R144, R145, R147: the characters of a frame that the filter keeps, taken by a receiver in whatever state, put
exactly that frame at the Frame Queue, and nothing else of the part changes on the way. -/
def Obligations.RadioFrameArrives : Prop :=
  ∀ (f : Frame) (s : State), s.phase = .running → f.Fits → filterKeeps s f.kind f.sender f.address = true →
    Host.Core.run Sys2Proof.core (f.payload.length + 6)
        { s with pending := charactersOf .radioCharacter f.bytes } =
      .next (radioFramePassed f
        { s with pending := [], radio := { s.radio with rx := .hunting, partialFrame := [], spacing := 0 } })

/-- R143, R144, R156: the characters of a frame on the service link, which has no filter, bring exactly that frame to
the receive slot. -/
def Obligations.ServiceFrameArrives : Prop :=
  ∀ (f : Frame) (s : State), s.phase = .running → f.Fits →
    Host.Core.run Sys2Proof.core (f.payload.length + 6)
        { s with pending := charactersOf .serviceCharacter f.bytes } =
      .next (serviceFramePassed f
        { s with pending := [], service := { s.service with rx := .hunting, partialFrame := [] } })

/-- R144, R145: the fourth byte of a radio frame is judged by the filter, and a fifth byte above 16 aborts the frame, on
either link, as a character with a bad stop bit does. That the address settings are read as they stand at the fourth byte,
also when one was applied within the frame, is the model's choice (assumption 44). What the characters do to the spacing
count, 0 or 22, is the model's reading (assumption 13): a good character ends a spell, an ignored one does nothing else, and
a bad stop bit leaves the count. -/
def Obligations.ReceiversTestBytes : Prop :=
  ∀ (s : State) (a b c d e : Byte), s.phase = .running →
    let address := 256 * c.toNat + d.toNat
    let kept : Prop := address = setting s 1 ∨ (setting s 2 ≠ 0 ∧ address = setting s 2) ∨
      (address = 0 ∧
        (((a.toNat = 0x10 ∨ a.toNat = 0x11) ∧ b.toNat = 60) ∨ (a.toNat = 0x18 ∧ b.toNat = 0)))
    (s.radio.rx = .assembling → s.radio.partialFrame = [a, b, c] →
      exec (.radioCharacter d false true) s =
        .next { s with
          radio := { s.radio with
            spacing := 0
            rx := if kept then .assembling else .ignoring
            partialFrame := if kept then [a, b, c, d] else [] } }) ∧
    (s.radio.rx = .assembling → s.radio.partialFrame = [a, b, c, d] → 16 < e.toNat →
      exec (.radioCharacter e false true) s =
        .next { s with radio := { s.radio with spacing := 0, rx := .hunting, partialFrame := [] } }) ∧
    (s.service.rx = .assembling → s.service.partialFrame = [a, b, c, d] → 16 < e.toNat →
      exec (.serviceCharacter e false true) s =
        .next { s with service := { s.service with rx := .hunting, partialFrame := [] } }) ∧
    (s.radio.rx = .ignoring → exec (.radioCharacter d false true) s = .next { s with radio := { s.radio with spacing := 0 } }) ∧
    (∀ marker, exec (.radioCharacter d marker false) s =
      .next { s with radio := { s.radio with rx := .hunting, partialFrame := [] } }) ∧
    ∀ marker, exec (.serviceCharacter d marker false) s =
      .next { s with service := { s.service with rx := .hunting, partialFrame := [] } }

/-- R144, R146 to R148, R156: the check byte completes a frame, a good sum passes it on and a bad one discards it; a passage
to marking ends a spell; a decoder that becomes free takes the frame that waits, from the link it did not serve last where
both have one; a frame taken has the effect of its command, and one that fails the check of R149 none, but that a BUSY owed
on the service link is then sent; a frame on an IDLE service link is taken at once by a free decoder. These are the model's:
the command of a frame kind is the taking of its frame (assumption 7), the completion commands act where the check byte is
awaited (assumption 8), and the check byte, like every good character, ends a spell of spacing (assumption 13). -/
def Obligations.FramesPassOn : Prop :=
  ∀ (s : State) (check : Byte), s.phase = .running →
    (s.radio.rx = .assembling → 5 ≤ s.radio.partialFrame.length →
      s.radio.partialFrame.length = (s.radio.partialFrame.map (·.toNat)).getD 4 0 + 5 →
      exec (.radioFrameComplete check) s =
        .next (if ((s.radio.partialFrame ++ [check]).map (·.toNat)).sum % 256 = 0 then
            radioFramePassed (frameOfBytes ((s.radio.partialFrame ++ [check]).map (·.toNat)))
              { s with radio := { s.radio with spacing := 0, rx := .hunting, partialFrame := [] } }
          else { s with radio := { s.radio with spacing := 0, rx := .hunting, partialFrame := [] } })) ∧
    (s.service.rx = .assembling → 5 ≤ s.service.partialFrame.length →
      s.service.partialFrame.length = (s.service.partialFrame.map (·.toNat)).getD 4 0 + 5 →
      exec (.serviceFrameComplete check) s =
        .next (if ((s.service.partialFrame ++ [check]).map (·.toNat)).sum % 256 = 0 then
            serviceFramePassed (frameOfBytes ((s.service.partialFrame ++ [check]).map (·.toNat)))
              { s with service := { s.service with rx := .hunting, partialFrame := [] } }
          else { s with service := { s.service with rx := .hunting, partialFrame := [] } })) ∧
    exec .passageToMarking s = .next { s with radio := { s.radio with spacing := 0 } } ∧
    (∀ f rest, s.decoder.occupied = true → s.radio.frames = f :: rest → s.service.slot = none →
      exec .decoderFree s =
        .next (takeRadioFrame f
          { s with decoder := ⟨true, .radio⟩, radio := { s.radio with frames := rest } })) ∧
    (s.decoder.occupied = true → s.radio.frames = [] → s.service.slot = none →
      exec .decoderFree s = .next { s with decoder := { s.decoder with occupied := false } }) ∧
    (∀ g, s.decoder.occupied = true → s.service.slot = some g → s.radio.frames = [] ∨ s.decoder.lastServed = .radio →
      exec .decoderFree s = .next (takeServiceFrame g { s with decoder := ⟨true, .service⟩ })) ∧
    (∀ f rest g, s.decoder.occupied = true → s.radio.frames = f :: rest → s.service.slot = some g →
      s.decoder.lastServed = .service →
      exec .decoderFree s =
        .next (takeRadioFrame f { s with decoder := ⟨true, .radio⟩, radio := { s.radio with frames := rest } })) ∧
    (s.decoder.occupied = false → exec .decoderFree s = .next s) ∧
    ∀ f, (s.radio.frames.length < 4 → s.decoder.occupied = true →
        radioFramePassed f s = { s with radio := { s.radio with frames := s.radio.frames ++ [f] } }) ∧
      (s.radio.frames = [] → s.service.slot = none → s.decoder.occupied = false →
        radioFramePassed f s = takeRadioFrame f { s with decoder := ⟨true, .radio⟩ }) ∧
      (s.radio.frames.length = 4 → radioFramePassed f s = { s with radio := { s.radio with overrun := true } }) ∧
      (s.service.link ≠ .idle →
        serviceFramePassed f s = { s with service := { s.service with busyOwed := some f.kind } }) ∧
      (s.service.link = .idle → s.decoder.occupied = true →
        serviceFramePassed f s = { s with service := { s.service with slot := some f, link := .waiting } }) ∧
      (s.service.link = .idle → s.decoder.occupied = false → s.radio.frames = [] →
        serviceFramePassed f s =
          takeServiceFrame f
            { s with decoder := ⟨true, .service⟩, service := { s.service with slot := some f, link := .waiting } }) ∧
      (∀ i, readFrame .radio f = some i → i.wellFormed = true → exec i s = .next (takeRadioFrame f s)) ∧
      (readFrame .radio f = none → takeRadioFrame f s = s) ∧
      (∀ i, readFrame .service f = some i → i.wellFormed = true →
        exec i { s with service := { s.service with slot := none, link := .idle } } = .next (takeServiceFrame f s)) ∧
      (readFrame .service f = none → s.service.busyOwed = none →
        takeServiceFrame f s =
          { s with service := { s.service with slot := none, link := .idle, reply := none } }) ∧
      ∀ k, readFrame .service f = none → s.service.busyOwed = some k →
        takeServiceFrame f s =
          { s with
            service := { s.service with
              slot := none, link := .replying, busyOwed := none
              reply := some ⟨0x41, 63, setting s 1, [62, k, 8]⟩ } }

/-! ### Speed law -/

/-- R3: the curve value of a target step, from points of 0..1023 SU. -/
def Obligations.CurveValue : Prop :=
  ∀ (s : State) (n : Nat), 1 ≤ n → n ≤ 112 → (∀ k, k ≤ 14 → setting s (64 + k) ≤ 1023) →
    let p : Nat → Int := fun k => setting s (64 + k)
    let k := n / 8
    (k = 14 → (curveValue s n : Int) = p 14) ∧
    (k ≠ 14 → (curveValue s n : Int) = p k + ((p (k + 1) - p k) * (n % 8 : Nat)).tdiv 8 ∧
      min (p k) (p (k + 1)) ≤ curveValue s n ∧ (curveValue s n : Int) ≤ max (p k) (p (k + 1))) ∧
    curveValue s n ≤ 1023

/-- R4, R5, R6: the trimmed, modified and forced value that is T_eff. -/
def Obligations.EffectiveTarget : Prop :=
  ∀ s : State,
    let trim := match s.ct.requested with | .fwd => setting s 8 | .rev => setting s 9
    let trimmed := min 1023 (curveValue s s.ct.target * trim / 128)
    let forced : Prop :=
      s.ct.target = 0 ∨
        (s.ct.latch.throttleEstop = true ∨ s.ct.latch.baseHalt = true ∨ s.ct.latch.linkBreak = true ∨
          s.ct.latch.signalLoss = true) ∨
        s.ml.fault = true ∨ (s.slu.permit = .withheld ∨ s.slu.permit = .holding) ∨
        (s.ct.requested ≠ s.slu.travel ∧ 0 < s.slu.r)
    (forced → effectiveTarget s = 0) ∧
    (¬ forced → effectiveTarget s = if s.fe.shunt then trimmed / 2 else trimmed) ∧ effectiveTarget s ≤ 1023

/-- R12: when nothing intervenes, R moves by floor(N × t / 16) in t ticks that start with F at 0, until it reaches
T_eff; R13: with MOMENTUM_OFF or a rate of 0 it gets there in one tick. -/
def Obligations.RampAverages : Prop :=
  ∀ r target rate t : Nat,
    (0 < rate → r ≤ target →
      (Nat.repeat (fun p : Nat × Nat => rampStep p.1 p.2 target rate false) t (r, 0)).1 = min target (r + rate * t / 16)) ∧
    (0 < rate → target ≤ r →
      (Nat.repeat (fun p : Nat × Nat => rampStep p.1 p.2 target rate false) t (r, 0)).1 = max target (r - rate * t / 16)) ∧
    ∀ f, rampStep r f target 0 false = (target, 0) ∧ rampStep r f target rate true = (target, 0)

/-- R11, R14, R22: an expiry of the control-cycle timer between two stops takes the ramp tick and counts, and does nothing
else; in COASTING and DOWN R and F stay. R15, R18, R19, R33, R181: a tick at which R passes between 0 and a value above 0,
or at which a turn falls due, brings besides the cues, the turn, the evaluation of the map, and at rest the Deferred List,
and, with a target step of 0..112 (one of the motion promises that every step keeps), T_eff follows. That a bridge that
drove in the last drive part counts as in DRIVE at a turn in the gap, which clears D and I16, is the model's choice
(assumption 43). That the cues precede the notices is the model's order (assumption 15). -/
def Obligations.CycleMovesRamp : Prop :=
  ∀ s : State, s.phase = .running →
    (∀ n, s.ml.retry = some n → s.ml.bridge = .tripped → n + 1 < 64) → (∀ n, s.ml.quiet = some n → n + 1 < 640) →
    (∀ ms, s.ps.bridging = some ms → s.ps.power = .bridging ∨ s.ps.power = .dimmed → ms + 8 ≤ setting s 49) →
    let rate := if s.slu.r < s.slu.tEff then setting s 5 else if s.fe.brake then setting s 7 else setting s 6
    let ramp := rampStep s.slu.r s.slu.f s.slu.tEff rate s.fe.momentumOff
    let counted : State :=
      { s with
        ml := { s.ml with inGap := true, retry := s.ml.retry.map (· + 1), quiet := s.ml.quiet.map (· + 1) }
        ps := { s.ps with bridging := s.ps.bridging.map (· + 8) } }
    (s.ps.power = .coasting ∨ s.ps.power = .down → exec .controlCycle s = .next counted) ∧
    (s.ps.power ≠ .coasting → s.ps.power ≠ .down → (0 < s.slu.r ↔ 0 < ramp.1) →
      (s.slu.r = 0 → s.ct.requested = s.slu.travel) →
      exec .controlCycle s = .next { counted with slu := { s.slu with r := ramp.1, f := ramp.2 } }) ∧
    (s.ps.power ≠ .coasting → s.ps.power ≠ .down → s.ss.working.wf = true → MapCurrent s →
      ¬ ((0 < s.slu.r ↔ 0 < ramp.1) ∧ (s.slu.r = 0 → s.ct.requested = s.slu.travel)) →
      let stops := 0 < s.slu.r ∧ ramp.1 = 0
      let starts := s.slu.r = 0 ∧ 0 < ramp.1
      let turns := ramp.1 = 0 ∧ s.ct.requested ≠ s.slu.travel
      ∃ t, exec .controlCycle s = .next t ∧ t.slu.r = ramp.1 ∧ t.slu.f = ramp.2 ∧
        t.slu.travel = (if turns then s.ct.requested else s.slu.travel) ∧
        (s.ct.target ≤ 112 → t.slu.tEff = effectiveTarget t) ∧ MapCurrent t ∧
        t.ml =
          (if turns ∧ s.ml.bridge = .drive then { counted.ml with bridge := .coast, d := 0, i16 := 0 }
           else counted.ml) ∧
        t.scan = s.scan ∧ t.ps = counted.ps ∧ t.ct.requested = s.ct.requested ∧ t.ct.latch = s.ct.latch ∧
        t.ss.deferred = (if stops then [] else s.ss.deferred) ∧
        (∀ i, ¬ stops ∨ (∀ v, (i, v) ∉ s.ss.deferred) → setting t i = setting s i) ∧
        (stops → (s.ss.deferred.map (·.1)).Nodup → ∀ e ∈ s.ss.deferred, setting t e.1 = e.2) ∧
        ((∀ e : Fin 24, setting s (258 + 4 * e.val) = 0) → ¬ stops ∨ s.ss.deferred = [] → s.se.mute = false →
          let rung :=
            if stops then raiseCue .stopped none s else if starts then raiseCue .startMoving none s else s
          t.se = (if turns then raiseCue .reversed none rung else rung).se))

/-- R38, R39, R130: what an expiry of the control-cycle timer makes of the quiet count, the retry timer and the bridging
timer, whatever else it brings. -/
def Obligations.CycleCounts : Prop :=
  ∀ s : State, s.phase = .running →
    ∃ t, exec .controlCycle s = .next t ∧ t.ml.inGap = true ∧
      (s.ml.quiet = none → t.ml.quiet = none ∧ t.ml.tripCounter = s.ml.tripCounter) ∧
      (∀ n, s.ml.quiet = some n → n + 1 < 640 →
        t.ml.quiet = some (n + 1) ∧ t.ml.tripCounter = s.ml.tripCounter) ∧
      (∀ n, s.ml.quiet = some n → 640 ≤ n + 1 → t.ml.quiet = none ∧ t.ml.tripCounter = 0) ∧
      (∀ n, s.ml.bridge = .tripped → s.ml.retry = some n → n + 1 < 64 →
        t.ml.bridge = .tripped ∧ t.ml.retry = some (n + 1) ∧ t.ml.dcap = s.ml.dcap) ∧
      (∀ n, s.ml.bridge = .tripped → s.ml.retry = some n → 64 ≤ n + 1 →
        t.ml.bridge = .coast ∧ t.ml.retry = none ∧ t.ml.dcap = 512 ∧ t.ml.i16 = 0) ∧
      (∀ ms, s.ss.deferred = [] → s.ps.power = .bridging ∨ s.ps.power = .dimmed → s.ps.bridging = some ms →
        (setting s 49 < ms + 8 → t.ps.power = .coasting ∧ t.ps.bridging = none) ∧
        (ms + 8 ≤ setting s 49 → t.ps.power = s.ps.power ∧ t.ps.bridging = some (ms + 8)))

/-- R9, R34, R38, R39, R83, R84, R130, R131, R155: the expiries of the retry timer, the quiet count, the bridging timer, the
hold-off timer and the telemetry timer by themselves, when they have reached their set time, and before (assumption 6: the
command waits for its timer). R7, R8, R10, R95, R98: what starts and stops the hold-off timer, a report of the run-permit
inputs: a permit newly granted raises ENGINE_START and is held off, one no longer granted raises ENGINE_STOP, and one no
longer required raises nothing. That the burst still starts outside READY after the outputs were ordered off is the model's
reading (assumption 22); that a bridge that drove coasts in a gap too is its choice (assumption 43). -/
def Obligations.TimersExpire : Prop :=
  ∀ s : State, s.phase = .running →
    (∀ n, s.ml.bridge = .tripped → s.ml.retry = some n → 64 ≤ n →
      exec .retryExpiry s =
        .next { s with ml := { s.ml with bridge := .coast, i16 := 0, dcap := 512, retry := none } }) ∧
    ((∀ n, s.ml.retry = some n → n < 64) → exec .retryExpiry s = .next s) ∧
    (∀ n, s.ml.quiet = some n → 640 ≤ n →
      exec .quietCountExpiry s = .next { s with ml := { s.ml with tripCounter := 0, quiet := none } }) ∧
    ((∀ n, s.ml.quiet = some n → n < 640) → exec .quietCountExpiry s = .next s) ∧
    (∀ ms, s.ps.power = .bridging ∨ s.ps.power = .dimmed → s.ps.bridging = some ms → setting s 49 < ms →
      exec .bridgingLimitExpiry s =
        .next { s with
          ps := { s.ps with power := .coasting, bridging := none }
          ml := if s.ml.bridge = .drive then { s.ml with bridge := .coast, d := 0 } else s.ml
          fe := litFe true s }) ∧
    ((∀ ms, s.ps.bridging = some ms → ms ≤ setting s 49) → exec .bridgingLimitExpiry s = .next s) ∧
    (∀ n, s.slu.holdOff = some n → setting s 10 ≤ n →
      exec .holdOffExpiry s =
        .next { s with
          slu := { s.slu with
            permit := .granted
            holdOff := none
            tEff := effectiveTarget { s with slu := { s.slu with permit := .granted, holdOff := none } } } }) ∧
    ((∀ n, s.slu.holdOff = some n → n < setting s 10) → exec .holdOffExpiry s = .next s) ∧
    (∀ n e, s.radio.telemetry = some n → setting s 53 ≤ n → driverEntry s = some e →
      exec .telemetryExpiry s =
        .next (queueReply e.id .status { s with radio := { s.radio with telemetry := some 0 } })) ∧
    ((∀ n, s.radio.telemetry = some n → n < setting s 53) → exec .telemetryExpiry s = .next s) ∧
    (
      let permitted := fun (permit : PermitState) (holdOff : Option Nat) =>
        let slu := { s.slu with permit := permit, holdOff := holdOff }
        { slu with tEff := effectiveTarget { s with slu := slu } }
      (permitReport false true true s =
        { s with
          slu := if setting s 10 = 0 then permitted .granted none else permitted .holding (some 0)
          se := (raiseCue .engineStart none s).se
          sc :=
            if setting s 19 = 1 ∧ (s.ps.outputsOff = false ∨ s.sc.smoke ≠ .ready) then
              { s.sc with burst := some 0, fan := if s.sc.smoke = .ready then 255 else s.sc.fan }
            else s.sc }) ∧
      permitReport true true true s = s ∧
      (permitReport true true false s =
        { s with slu := permitted .withheld none, se := (raiseCue .engineStop none s).se }) ∧
      permitReport false true false s = { s with slu := permitted .withheld none } ∧
      ∀ old granted, permitReport old false granted s = { s with slu := permitted .notRequired none })

/-- R160: at each step every heard age rises by 1 up to 600, a WATCHER then at 600 is removed, and every other entry stays
in the order of hearing, whatever expires at that step; the removal by itself. -/
def Obligations.StepRaisesAges : Prop :=
  ∀ s : State, s.phase = .running →
    let aged := (s.ct.entries.map fun e => { e with age := min 600 (e.age + 1) }).filter fun e =>
      e.isDriver || e.age < 600
    (∃ t, exec .step s = .next t ∧
      t.ct.entries.map (fun e => (e.id, e.age)) = aged.map fun e => (e.id, e.age)) ∧
    exec .watcherAgeOut s =
      .next { s with ct := { s.ct with entries := s.ct.entries.filter fun e => e.isDriver || e.age < 600 } }

/-- R1, R9, R155, R160, R168: a step at which nothing expires. -/
def Obligations.StepCounts : Prop :=
  ∀ s : State, s.phase = .running →
    let t : State :=
      { s with
        ct := { s.ct with
          entries := (s.ct.entries.map fun e => { e with age := min 600 (e.age + 1) }).filter fun e =>
            e.isDriver || e.age < 600 }
        slu := { s.slu with holdOff := s.slu.holdOff.map (· + 1) }
        radio := { s.radio with telemetry := s.radio.telemetry.map (· + 1) } }
    (∀ e, driverEntry t = some e → 0 < setting s 54 → driverLost t = false → e.age < setting s 54) →
    (∀ n, s.slu.holdOff = some n → n + 1 < setting s 10) →
    (∀ n, s.radio.telemetry = some n → n + 1 < setting s 53) → exec .step s = .next t

/-- R168: a signal-loss expiry marks the Driver LOST, turns the MOMENTARY functions OFF and takes the Loss action; with
settings deferred, an ESTOP action that stops the locomotive applies them. That the command does nothing where the expiry is
not due, before its time or with a time of 0, is the model's reading (assumption 6). -/
def Obligations.SignalLoss : Prop :=
  ∀ (s : State) (e : Entry) (scope : Scope), s.phase = .running → driverEntry s = some e →
    e.role = .driver scope false →
    (0 < setting s 54 → setting s 54 ≤ e.age →
      s.ss.deferred = [] ∨ setting s 55 ≠ 2 ∨ s.ct.latch.held = true ∨ s.slu.r = 0 →
      ∃ t, exec .signalLossExpiry s = .next t ∧ driverLost t = true ∧
        (∀ n : Fin 32, t.ct.functions[n] = (s.ct.functions[n] && !isMomentary s n.val)) ∧
        t.ct.requested = s.ct.requested ∧
        (setting s 55 = 0 → t.ct.target = 0 ∧ t.ct.latch = s.ct.latch ∧ t.slu.r = s.slu.r) ∧
        (setting s 55 = 1 → t.ct.target = s.ct.target ∧ t.ct.latch = s.ct.latch ∧ t.slu.r = s.slu.r) ∧
        (setting s 55 = 2 → t.ct.latch = { s.ct.latch with signalLoss := true } ∧
          (s.ct.latch.held = false → t.ct.target = 0 ∧ t.slu.r = 0 ∧ t.slu.tEff = 0)) ∧
        t = { s with
          slu := t.slu, ml := t.ml, fe := t.fe, sc := t.sc, se := t.se, ct := t.ct, orderCount := t.orderCount }) ∧
    (0 < setting s 54 → setting s 54 ≤ e.age → setting s 55 = 2 → s.ct.latch.held = false →
      ∃ t, exec .signalLossExpiry s = .next t ∧ t.ct.latch = { s.ct.latch with signalLoss := true } ∧
        t.ct.target = 0 ∧ t.ct.requested = s.ct.requested ∧ t.slu.r = 0 ∧ t.slu.f = 0 ∧ t.slu.tEff = 0 ∧
        t.slu.travel = s.ct.requested ∧ (s.ml.bridge = .drive ∨ s.ml.bridge = .coast → t.ml.d = 0) ∧
        (0 < s.slu.r → t.ss.deferred = [])) ∧
    (e.age < setting s 54 ∨ setting s 54 = 0 → exec .signalLossExpiry s = .next s)

/-! ### Motor -/

/-- R24: a back-EMF reading against the travel direction reads as 0, the BEMF offset is subtracted, and its field of the
Scan Results alone is replaced. R26 to R30: at a gap end the middle reading becomes the median, M is formed from it, and
the bridge, the duty and the integral are decided by the first case that applies, whatever the chain does at that gap
end. -/
def Obligations.GapDecides : Prop :=
  ∀ s : State, s.phase = .running →
    (∀ (polarity : Direction) (raw : Raw),
      let v := (if polarity = s.slu.travel then raw.toNat else 0) - setting s 484
      exec (.bemfReading 0 polarity raw) s = .next { s with scan := { s.scan with bemf1 := v } } ∧
      exec (.bemfReading 1 polarity raw) s = .next { s with scan := { s.scan with bemf2 := v } } ∧
      exec (.bemfReading 2 polarity raw) s = .next { s with scan := { s.scan with bemf3 := v } }) ∧
    ∃ t, exec .gapEnd s = .next t ∧
      (([s.scan.bemf1, s.scan.bemf2, s.scan.bemf3].mergeSort (· ≤ ·))[1]?) = some t.scan.median ∧
      let m := min 1023 (t.scan.median * setting s 14 / 256)
      let e : Int := (s.slu.r : Int) - m
      let i16 := max (-16368) (min 16368 (s.ml.i16 + (e * setting s 13).fdiv 16))
      let u := fun i : Int =>
        (((s.slu.r * setting s 11 / 128 : Nat)) : Int) + (e * setting s 12).fdiv 32 + i.fdiv 16
      let shed : Prop := s.ps.power = .coasting ∨ s.ps.power = .down
      let limit : Int := if shed then 0 else min 1023 (s.ml.dcap : Int)
      let windup : Prop := (limit < u i16 ∧ 0 < e) ∨ (u i16 < 0 ∧ e < 0)
      let kept := if windup then s.ml.i16 else i16
      t.ml =
        (if s.ps.outputsOff then { s.ml with m := m, inGap := false, bridge := .coast, d := 0, i16 := 0 }
         else if s.ml.bridge = .tripped then { s.ml with m := m, inGap := false, d := 0 }
         else if s.ml.fault then { s.ml with m := m, inGap := false, bridge := .coast, d := 0, i16 := 0 }
         else if s.slu.r = 0 ∧ s.slu.tEff = 0 then
           { s.ml with
             m := m, inGap := false, bridge := if s.ct.latch.held then .brake else .coast, d := 0, i16 := 0 }
         else
           { s.ml with
             m := m, inGap := false, bridge := if shed then .coast else .drive
             d := (max 0 (min limit (u kept))).toNat, i16 := kept }) ∧
      t = { s with
        scan := { s.scan with median := t.scan.median }, ml := t.ml, mt := t.mt, sc := t.sc, se := t.se, ss := t.ss }

/-- R25, R35, R37, R40: a first current reading is recorded, and trips a driving bridge where it lies above the trip
level; the third trip sets the Motor Fault latch. -/
def Obligations.FirstCurrentTrips : Prop :=
  ∀ (s : State) (raw : Raw), s.phase = .running →
    let i := min 1023 (raw.toNat * setting s 483 / 4096)
    let level := min (2 * setting s 15) 800
    let scan := { s.scan with currentA := i }
    (s.ml.bridge ≠ .drive ∨ i ≤ level → exec (.currentReading 0 raw) s = .next { s with scan := scan }) ∧
    (s.ml.bridge = .drive → level < i → s.ml.tripCounter < 2 →
      exec (.currentReading 0 raw) s =
        .next { s with
          scan := scan
          ml := { s.ml with
            tripCounter := s.ml.tripCounter + 1, d := 0, i16 := 0, quiet := some 0, bridge := .tripped
            retry := some 0 } }) ∧
    (s.ml.bridge = .drive → level < i → 2 ≤ s.ml.tripCounter →
      exec (.currentReading 0 raw) s =
        .next (statusToDriver { s with
          scan := scan
          slu := { s.slu with tEff := 0 }
          ml := { s.ml with
            tripCounter := 3, d := 0, i16 := 0, quiet := none, bridge := .coast, retry := none, fault := true } }))

/-- R35 to R37, R40, R57 to R59, R92, R93, R95, R133: a second current reading is tested against the trip level as the first
is; then Dcap is adjusted in the bridge state that the test has left, an order that is the model's (assumption 29); the
cycle's mean current joins the labor window, whose sixteenth mean closes it, and gives the heater its allowance, cap and
duty. -/
def Obligations.SecondCurrentShares : Prop :=
  ∀ (s : State) (raw : Raw), s.phase = .running →
    let i := min 1023 (raw.toNat * setting s 483 / 4096)
    let mean := (s.scan.currentA + i) / 2
    let trips := s.ml.bridge = .drive ∧ min (2 * setting s 15) 800 < i
    let faults := trips ∧ 2 ≤ s.ml.tripCounter
    let ml : Ml :=
      if faults then
        { s.ml with tripCounter := 3, d := 0, i16 := 0, quiet := none, bridge := .coast, retry := none, fault := true }
      else if trips then
        { s.ml with
          tripCounter := s.ml.tripCounter + 1, d := 0, i16 := 0, quiet := some 0, bridge := .tripped, retry := some 0 }
      else s.ml
    let dcap :=
      match ml.bridge with
      | .drive => if setting s 15 < mean then max 64 (s.ml.dcap - s.ml.dcap / 8) else min 1023 (s.ml.dcap + 32)
      | .coast => min 1023 (s.ml.dcap + 32)
      | .brake => min 1023 (s.ml.dcap + 32)
      | .tripped => s.ml.dcap
    let allowance := if s.ps.power = .normal then setting s 48 - mean - s.fe.lightEstimate else 0
    let cap := min 255 (255 * allowance / setting s 35)
    let demand : Nat :=
      match s.sc.temp with
      | some temp =>
        if (s.sc.smoke = .preheat ∨ s.sc.smoke = .ready) ∧ temp < (setting s 32 : Int) then
          min 255 (((setting s 32 : Int) - temp).toNat * setting s 34)
        else 0
      | none => 0
    let slu := if faults then { s.slu with tEff := 0 } else s.slu
    let sum := s.mt.windowSum + mean
    let l := min 255 (sum / 16 * 255 / setting s 15)
    let labor : LaborState :=
      match s.mt.labor with
      | .light => if setting s 20 ≤ l then .heavy else .light
      | .heavy => if l < setting s 20 - setting s 21 then .light else .heavy
    ∃ t, exec (.currentReading 1 raw) s = .next t ∧ t.scan = { s.scan with currentB := i } ∧
      t.ml = { ml with dcap := dcap, d := min ml.d dcap } ∧ t.slu = slu ∧
      t.radio =
        (if faults then (statusToDriver { s with scan := t.scan, slu := slu, ml := ml }).radio else s.radio) ∧
      t.ps = { s.ps with allowance := allowance } ∧
      t.sc =
        { s.sc with
          cap := cap, demand := demand, duty := if s.ps.outputsOff then 0 else min demand cap
          fan :=
            if 16 ≤ s.mt.windowCount + 1 ∧ setting s 19 = 1 ∧ s.sc.smoke = .ready ∧ s.ps.outputsOff = false then
              (if s.sc.burst.isSome then 255 else min 255 (setting s 39 + l * setting s 40 / 255))
            else s.sc.fan } ∧
      (s.mt.windowCount + 1 < 16 →
        t.mt = { s.mt with windowSum := sum, windowCount := s.mt.windowCount + 1 } ∧ t.se = s.se) ∧
      (16 ≤ s.mt.windowCount + 1 →
        t.mt = { s.mt with l := l, windowSum := 0, windowCount := 0, labor := labor } ∧
        t.se =
          (if labor = s.mt.labor then s
            else raiseCue (if labor = .heavy then .laborUp else .laborDown) none s).se) ∧
      t = { s with
        scan := t.scan, slu := t.slu, ml := t.ml, mt := t.mt, sc := t.sc, se := t.se, ps := t.ps, radio := t.radio }

/-! ### Motion Tracker -/

/-- R47, R48, R50: a gap end with SYNTH in effect adds M to PA and takes as many chain steps as PA holds Quanta; the
odometer halves follow the Odometer; R54: with SENSOR in effect it keeps the silent count, and at 250 falls back and is
treated as in SYNTH. R49, R60, R61, R94: each of the chain steps hands on its CHUFF event, with STEAM its chuff cue, and the
firings of the matchers in order, with the chain as that step leaves it. That a pulse accepted under SYNTH counts for the
first gap end after SENSOR is applied is the model's choice (assumption 46). -/
def Obligations.GapEndAdvancesChain : Prop :=
  ∀ s : State, s.phase = .running → s.ss.working.wf = true → 0 < setting s 16 → s.mt.chuff < setting s 17 →
    s.mt.revolution < 256 → s.mt.odometer < 4294967296 →
    ∃ t, exec .gapEnd s = .next t ∧
      let advanced : Mt → Nat → Mt := fun m pa =>
        let steps := pa / setting s 16
        let turns := (m.chuff + steps) / setting s 17
        { m with
          pa := pa % setting s 16, chuff := (m.chuff + steps) % setting s 17
          revolution := (m.revolution + turns) % 256, odometer := (m.odometer + turns) % 4294967296 }
      let silent := if s.mt.pulseSeen = true ∨ t.ml.m < 32 then 0 else s.mt.silent + 1
      let beat := fun j : Nat => (s.mt.chuff + j) % setting s 17
      let turn := fun j : Nat => (s.mt.revolution + (s.mt.chuff + j) / setting s 17) % 256
      let fires : Nat → Fin 8 → Bool := fun j m =>
        let field := fun n : Nat => setting s (128 + 6 * m.val + n)
        let on := fun w : Nat => field 0 / w % 2 = 1
        decide (field 0 ≠ 0) && (decide (on 1 → beat j = field 1 % 8) &&
          (decide (on 2 → turn j % (field 2 / 16 + 1) = field 2 % 16) &&
          (decide (on 4 → s.slu.travel = if field 1 / 8 % 2 = 0 then .fwd else .rev) &&
          (decide (on 8 → field 3 ≤ s.slu.r ∧ s.slu.r ≤ field 4) &&
            decide (on 16 → ∃ n : Fin 32, n.val = field 1 / 16 ∧ s.ct.functions[n] = true)))))
      let chuff := fun (j : Nat) (u : State) =>
        if setting s 19 = 1 then u
        else raiseCue (if s.mt.labor = .heavy then .chuffHeavy else .chuffLight) (some (beat j)) u
      let handed := fun (j : Nat) (u : State) =>
        (List.finRange 8).foldl
          (fun u m =>
            let action := setting s (133 + 6 * m.val)
            if fires j m ∧ action ≠ 0 ∧ action ≠ 256 then raiseDirect (.matcher m) action u else u)
          (chuff j u)
      let steps := if s.mt.source = .synth then (s.mt.pa + t.ml.m) / setting s 16 else t.ml.m / setting s 16
      (s.mt.source = .synth → t.mt = advanced { s.mt with pulseSeen := false } (s.mt.pa + t.ml.m)) ∧
      (s.mt.source = .sensor → setting s 18 = 1 → silent < 250 →
        t.mt = { s.mt with silent := silent, pulseSeen := false } ∧ t.se = s.se) ∧
      (s.mt.source = .sensor → setting s 18 = 1 → 250 ≤ silent →
        t.mt = advanced { s.mt with source := .synth, fallback := true, silent := silent, pulseSeen := false } t.ml.m) ∧
      (s.mt.source = .synth ∨ (setting s 18 = 1 ∧ 250 ≤ silent) →
        t.se = ((List.range steps).foldl (fun u j => handed (j + 1) u) s).se ∧
        t.sc =
          (if 0 < steps ∧ setting s 19 ≠ 1 ∧ s.sc.smoke = .ready ∧ s.ps.outputsOff = false then
            { s.sc with
              fan := min 255 (setting s 36 + s.mt.l * setting s 37 / 255), puff := some 0, puffLimit := setting s 38 }
           else s.sc)) ∧
      (t.mt.odometer ≠ s.mt.odometer →
        setting t 501 = t.mt.odometer / 65536 ∧ setting t 502 = t.mt.odometer % 65536) ∧
      ∀ i, i ≠ 501 → i ≠ 502 → setting t i = setting s i

/-- R52, R53, R55: a wheel pulse is ignored within 4 ms of the last accepted one; an accepted one takes a chain step where
SENSOR is in effect or a fallback is marked, and hands on the CHUFF event, with STEAM the chuff cue, and the firing of each
matcher whose enabled fields all match, in order of matcher number (R49, R60, R61); the fallback by itself acts when the
silent count has reached 250 (R54), with the chain steps that M brings (R47), and before that does nothing, which is the
model's reading (assumption 6). The unit of the pulse's time is the model's (assumption 9), and so is
that a pulse accepted under SYNTH is kept as accepted since the previous gap end (assumption 46). -/
def Obligations.WheelSensor : Prop :=
  ∀ (s : State) (time : Nat), s.phase = .running →
    (∀ last, s.mt.lastPulse = some last → time < last + 4000 → exec (.wheelPulse time) s = .next s) ∧
    ((∀ last, s.mt.lastPulse = some last → last + 4000 ≤ time) → s.mt.source = .synth → s.mt.fallback = false →
      exec (.wheelPulse time) s = .next { s with mt := { s.mt with lastPulse := some time, pulseSeen := true } }) ∧
    ((∀ last, s.mt.lastPulse = some last → last + 4000 ≤ time) → s.mt.source = .sensor ∨ s.mt.fallback = true →
      ∃ t, exec (.wheelPulse time) s = .next t ∧
        (
          let turned := s.mt.chuff + 1 = setting s 17
          t.mt =
            { s.mt with
              lastPulse := some time, pulseSeen := true, silent := 0, source := .sensor, fallback := false
              pa := if s.mt.fallback then 0 else s.mt.pa
              chuff := if turned then 0 else s.mt.chuff + 1
              revolution := if turned then (s.mt.revolution + 1) % 256 else s.mt.revolution
              odometer := if turned then (s.mt.odometer + 1) % 4294967296 else s.mt.odometer }) ∧
        (
          let fires : Fin 8 → Bool := fun m =>
            let field := fun n : Nat => setting s (128 + 6 * m.val + n)
            let on := fun w : Nat => field 0 / w % 2 = 1
            decide (field 0 ≠ 0) && (decide (on 1 → t.mt.chuff = field 1 % 8) &&
              (decide (on 2 → t.mt.revolution % (field 2 / 16 + 1) = field 2 % 16) &&
              (decide (on 4 → s.slu.travel = if field 1 / 8 % 2 = 0 then .fwd else .rev) &&
              (decide (on 8 → field 3 ≤ s.slu.r ∧ s.slu.r ≤ field 4) &&
                decide (on 16 → ∃ n : Fin 32, n.val = field 1 / 16 ∧ s.ct.functions[n] = true)))))
          t.se =
            ((List.finRange 8).foldl
              (fun u m =>
                let action := setting s (133 + 6 * m.val)
                if fires m ∧ action ≠ 0 ∧ action ≠ 256 then raiseDirect (.matcher m) action u else u)
              (if setting s 19 = 1 then s
                else raiseCue (if s.mt.labor = .heavy then .chuffHeavy else .chuffLight) (some t.mt.chuff) s)).se ∧
          t.sc =
            (if setting s 19 ≠ 1 ∧ s.sc.smoke = .ready ∧ s.ps.outputsOff = false then
              { s.sc with
                fan := min 255 (setting s 36 + s.mt.l * setting s 37 / 255), puff := some 0
                puffLimit := setting s 38 }
             else s.sc)) ∧
        t = { s with mt := t.mt, sc := t.sc, se := t.se, ss := { s.ss with working := t.ss.working } } ∧
        ∀ i, i ≠ 501 → i ≠ 502 → setting t i = setting s i) ∧
    (setting s 18 = 1 → s.mt.source = .sensor → 250 ≤ s.mt.silent → s.ml.m < setting s 16 →
      exec .sensorFallback s =
        .next { s with mt := { s.mt with source := .synth, pa := s.ml.m, fallback := true } }) ∧
    (setting s 18 = 1 → s.mt.source = .sensor → 250 ≤ s.mt.silent → s.ss.working.wf = true → 0 < setting s 16 →
      s.mt.chuff < setting s 17 → s.mt.revolution < 256 → s.mt.odometer < 4294967296 →
      ∃ t, exec .sensorFallback s = .next t ∧
        (
          let steps := s.ml.m / setting s 16
          let turns := (s.mt.chuff + steps) / setting s 17
          t.mt =
            { s.mt with
              source := .synth, pa := s.ml.m % setting s 16, fallback := true
              chuff := (s.mt.chuff + steps) % setting s 17, revolution := (s.mt.revolution + turns) % 256
              odometer := (s.mt.odometer + turns) % 4294967296 }) ∧
        t = { s with mt := t.mt, sc := t.sc, se := t.se, ss := { s.ss with working := t.ss.working } }) ∧
    (setting s 18 ≠ 1 ∨ s.mt.source = .synth ∨ s.mt.silent < 250 → exec .sensorFallback s = .next s)

/-- R58, R59, R95: a closing window forms L from its mean and the current limit, opens the next one, changes the labor state
with hysteresis and raises its cue, and with MOTOR type gives the fan its level. That the command does nothing before the
sixteenth mean is the model's reading (assumption 6). -/
def Obligations.WindowCloses : Prop :=
  ∀ s : State, s.phase = .running →
    let l := min 255 (s.mt.windowSum / 16 * 255 / setting s 15)
    let labor : LaborState :=
      match s.mt.labor with
      | .light => if setting s 20 ≤ l then .heavy else .light
      | .heavy => if l < setting s 20 - setting s 21 then .light else .heavy
    (16 ≤ s.mt.windowCount →
      ∃ t, exec .laborWindowClose s = .next t ∧
        t.mt = { s.mt with l := l, windowSum := 0, windowCount := 0, labor := labor } ∧
        t.se =
          (if labor = s.mt.labor then s
            else raiseCue (if labor = .heavy then .laborUp else .laborDown) none s).se ∧
        t.sc =
          (if setting s 19 = 1 ∧ s.sc.smoke = .ready ∧ s.ps.outputsOff = false then
            { s.sc with
              fan := if s.sc.burst.isSome then 255 else min 255 (setting s 39 + l * setting s 40 / 255) }
           else s.sc) ∧
        t = { s with mt := t.mt, sc := t.sc, se := t.se }) ∧
    (s.mt.windowCount < 16 → exec .laborWindowClose s = .next s)

/-! ### Lights and smoke -/

/-- R74 to R79, R81, R83 and R94 to R96: an effects tick moves every RUNNING generator along its waveform, a FLICKER one with
its turn at the noise register, lowers every FADING_OUT one, which at 0 gives its output to the winner, leaves DARK and DONE
ones, and counts the smoke timers; after the outputs were ordered off the generators rest. That a FADE generator keeps its
position, that a generator going DARK is cleared, and that the fading entry's Argument names its profile, is the model's
reading (assumption 21). -/
def Obligations.EffectsTickShapes : Prop :=
  ∀ s : State, s.phase = .running →
    ∃ t, exec .effectsTick s = .next t ∧ t = { s with fe := t.fe, sc := t.sc } ∧
      (s.ps.outputsOff = true → t.fe = s.fe) ∧
      (s.ps.outputsOff = false → ∀ (k : Fin 8) (e : Fin 24), s.fe.gens[k].driving = some e →
        s.fe.gens[k].st = .running →
        let g := s.fe.gens[k]
        let p := setting s (259 + 4 * e.val) % 8
        let w := setting s (176 + 6 * p)
        let high := setting s (179 + 6 * p)
        let low := setting s (180 + 6 * p)
        let options := setting s (181 + 6 * p)
        let b := if s.fe.dimmer then setting s (178 + 6 * p) else setting s (177 + 6 * p)
        let period :=
          if w = 0 then max 1 high else if w = 1 then max 1 (high + low)
          else if w = 2 then max 2 (high + low) else max 8 (high + low)
        let q := if period ≤ g.q + 1 then 0 else g.q + 1
        let run := min 1000 (g.run + 1)
        let lit := w = 0 ∨ (w = 1 ∧ q < high) ∨ (w = 2 ∧ q < 2) ∨ (w = 3 ∧ (q = 0 ∨ q = 1 ∨ q = 6 ∨ q = 7))
        let done := 256 ≤ options ∧ period ≤ run
        let shown := fun v : Nat =>
          if s.ps.power = .normal ∨ s.ps.power = .bridging then v else v / 2
        let level :=
          if options % 256 = 0 then b else if g.fade < b then min b (g.fade + options % 256)
          else max b (g.fade - options % 256)
        (w ≤ 3 →
          t.fe.gens[k] =
            { g with
              st := if done then .done else .running, q := q, run := run
              value := if done ∨ ¬ lit then 0 else b, brightness := shown (if done ∨ ¬ lit then 0 else b) }) ∧
        (w = 5 → t.fe.gens[k] = { g with run := run, fade := level, value := level, brightness := shown level }) ∧
        (
          let flickers := fun j : Fin 8 => decide (∃ d : Fin 24, s.fe.gens[j].driving = some d ∧
            s.fe.gens[j].st = .running ∧ s.fe.gens[j].countdown = 0 ∧
            (let p := setting s (259 + 4 * d.val) % 8
             setting s (176 + 6 * p) = 4 ∧
               ¬ (256 ≤ setting s (181 + 6 * p) ∧
                 max 3 (setting s (179 + 6 * p) + setting s (180 + 6 * p)) ≤ min 1000 (s.fe.gens[j].run + 1))))
          let step := fun n : BitVec 16 => if n.getLsbD 0 then (n >>> 1) ^^^ 0xB400#16 else n >>> 1
          let taken := fun n : Nat =>
            (max 0 (min 255 ((b : Int) - 64 + ((Nat.repeat step n s.fe.noise).toNat % 128 : Nat)))).toNat
          let ahead := ((List.finRange 8).filter fun j => decide (j < k) && flickers j).length
          let wrapped := if max 3 (high + low) ≤ g.q + 1 then 0 else g.q + 1
          w = 4 →
            (256 ≤ options → max 3 (high + low) ≤ run →
              t.fe.gens[k] = { g with st := .done, q := wrapped, run := run, value := 0, brightness := 0 }) ∧
            (¬ (256 ≤ options ∧ max 3 (high + low) ≤ run) →
              (g.countdown ≠ 0 →
                t.fe.gens[k] =
                  { g with q := wrapped, run := run, countdown := g.countdown - 1, brightness := shown g.value }) ∧
              (g.countdown = 0 → (∀ j : Fin 8, j < k → s.fe.gens[j].st ≠ .fadingOut) →
                t.fe.gens[k] =
                  { g with
                    q := wrapped, run := run, countdown := 2, value := taken (ahead + 1)
                    brightness := shown (taken (ahead + 1)) })))) ∧
      (s.ps.outputsOff = false → ∀ k : Fin 8,
        let g := s.fe.gens[k]
        let shown := fun v : Nat => if s.ps.power = .normal ∨ s.ps.power = .bridging then v else v / 2
        (g.driving = none ∨ g.st = .dark ∨ g.st = .done → t.fe.gens[k] = { g with brightness := shown g.value }) ∧
        ∀ d : Fin 24, g.driving = some d → g.st = .fadingOut →
          let rate := setting s (181 + 6 * (setting s (259 + 4 * d.val) % 8)) % 256
          let level := if rate = 0 then 0 else g.fade - rate
          (0 < level → t.fe.gens[k] = { g with fade := level, value := level, brightness := shown level }) ∧
          (level = 0 → (∀ e : Fin 24, s.fe.active[e] = true → setting s (258 + 4 * e.val) ≠ k.val + 1) →
            t.fe.gens[k] = Gen.off) ∧
          (level = 0 → ∀ e : Fin 24, s.fe.active[e] = true → setting s (258 + 4 * e.val) = k.val + 1 →
            (∀ d : Fin 24, d < e → s.fe.active[d] = true → setting s (258 + 4 * d.val) ≠ k.val + 1) →
            t.fe.gens[k].driving = some e ∧ t.fe.gens[k].st = .running ∧ t.fe.gens[k].run = 0 ∧
              t.fe.gens[k].fade = 0)) ∧
      ((∀ n, s.sc.puff = some n → n + 1 < s.sc.puffLimit) → (∀ n, s.sc.burst = some n → n + 1 < 200) →
        (∀ n, s.sc.purge = some n → n + 1 < s.sc.purgeLimit) →
        t.sc =
          { s.sc with
            puff := s.sc.puff.map (· + 1), burst := s.sc.burst.map (· + 1), purge := s.sc.purge.map (· + 1) }) ∧
      (∀ n, s.sc.puff = some n → s.sc.puffLimit ≤ n + 1 → t.sc.puff = none) ∧
      (∀ n, s.sc.burst = some n → 200 ≤ n + 1 → t.sc.burst = none) ∧
      ∀ n, s.sc.purge = some n → s.sc.purgeLimit ≤ n + 1 → t.sc.purge = none ∧ t.sc.fan = 0

/-- R74, R78, R81, R94, R95, R96: the updates and expiries of chapter 4 and 5 by themselves, when they are due, and
before. That each command leaves the state unchanged before it is due is the model's reading of it (assumption 6), and so is
that a generator going DARK has its whole record cleared (assumption 21). -/
def Obligations.EffectExpiries : Prop :=
  ∀ (s : State) (k : Fin 8), s.phase = .running →
    let g := s.fe.gens[k]
    let profile : Fin 24 → Nat := fun e => setting s (259 + 4 * e.val) % 8
    let noise := if s.fe.noise.getLsbD 0 then (s.fe.noise >>> 1) ^^^ 0xB400#16 else s.fe.noise >>> 1
    (∀ e, g.driving = some e → g.st = .running → setting s (176 + 6 * profile e) = 4 → g.countdown = 0 →
      s.ps.outputsOff = false →
      ∃ t, exec (.flickerUpdate k) s = .next t ∧ t = { s with fe := t.fe } ∧ t.fe.noise = noise ∧
        (s.fe.noise ≠ 0 → t.fe.noise ≠ 0) ∧ t.fe.gens[k].countdown = 2 ∧ t.fe.gens[k].st = .running ∧
        let b := if s.fe.dimmer then setting s (178 + 6 * profile e) else setting s (177 + 6 * profile e)
        (t.fe.gens[k].value : Int) = max 0 (min 255 ((b : Int) - 64 + (noise.toNat % 128 : Nat)))) ∧
    (g.st ≠ .running ∨ g.countdown ≠ 0 ∨ s.ps.outputsOff = true → exec (.flickerUpdate k) s = .next s) ∧
    (g.st = .fadingOut → g.fade = 0 → s.ps.outputsOff = false →
      ∃ t, exec (.fadeOutEnd k) s = .next t ∧ t = { s with fe := t.fe } ∧
        ((∀ e : Fin 24, s.fe.active[e] = true → setting s (258 + 4 * e.val) ≠ k.val + 1) →
          t.fe.gens[k] = Gen.off) ∧
        ∀ e : Fin 24, s.fe.active[e] = true → setting s (258 + 4 * e.val) = k.val + 1 →
          (∀ d : Fin 24, d < e → s.fe.active[d] = true → setting s (258 + 4 * d.val) ≠ k.val + 1) →
          t.fe.gens[k].driving = some e ∧ t.fe.gens[k].st = .running ∧ t.fe.gens[k].run = 0) ∧
    (g.st ≠ .fadingOut ∨ g.fade ≠ 0 ∨ s.ps.outputsOff = true → exec (.fadeOutEnd k) s = .next s) ∧
    (∀ e, g.driving = some e → g.st = .running →
      let w := setting s (176 + 6 * profile e)
      let high := setting s (179 + 6 * profile e)
      let low := setting s (180 + 6 * profile e)
      let period :=
        if w = 0 then max 1 high else if w = 1 then max 1 (high + low) else if w = 2 then max 2 (high + low)
        else if w = 3 then max 8 (high + low) else max 3 (high + low)
      let once := 256 ≤ setting s (181 + 6 * profile e) ∧ w ≠ 5
      (once → period ≤ g.run → s.ps.outputsOff = false →
        ∃ t, exec (.oneShotDone k) s = .next t ∧ t = { s with fe := t.fe } ∧
          t.fe.gens[k] = { g with st := .done, value := 0, brightness := 0 }) ∧
      (¬ once ∨ g.run < period → exec (.oneShotDone k) s = .next s)) ∧
    (g.driving = none ∨ g.st ≠ .running ∨ s.ps.outputsOff = true → exec (.oneShotDone k) s = .next s) ∧
    (∀ n, s.sc.puff = some n → s.sc.puffLimit ≤ n →
      exec .puffExpiry s = .next { s with sc := { s.sc with fan := 0, puff := none } }) ∧
    ((∀ n, s.sc.puff = some n → n < s.sc.puffLimit) → exec .puffExpiry s = .next s) ∧
    (∀ n, s.sc.burst = some n → 200 ≤ n →
      exec .burstExpiry s =
        .next { s with
          sc := { s.sc with
            burst := none
            fan :=
              if setting s 19 = 1 ∧ s.sc.smoke = .ready ∧ s.ps.outputsOff = false then
                min 255 (setting s 39 + s.mt.l * setting s 40 / 255)
              else s.sc.fan } }) ∧
    ((∀ n, s.sc.burst = some n → n < 200) → exec .burstExpiry s = .next s) ∧
    (∀ n, s.sc.purge = some n → s.sc.purgeLimit ≤ n →
      exec .purgeExpiry s = .next { s with sc := { s.sc with fan := 0, purge := none } }) ∧
    ((∀ n, s.sc.purge = some n → n < s.sc.purgeLimit) → exec .purgeExpiry s = .next s)

/-- R23, R89, R90, R91, R92: a thermistor reading gives T from the table and the thermistor fault, and decides whether a
heating well runs dry, is ready, and how hard it is heated. R86, R88, R95: READY forms the fan of MOTOR type; a smoke enable
that turns on, and a return to NORMAL, begin to heat under the same tests, or wait in SHED; R87, R96, R98: one that turns
off ends the heating with a purge, or DRY without one; after the outputs were ordered off it is not taken where its purge
would raise the fan, which is the model's reading of R98 (assumption 22). -/
def Obligations.ThermistorReading : Prop :=
  (∀ (s : State) (raw : Raw), s.phase = .running →
    ∃ (t : State) (temp : Int), exec (.thermistorReading raw) s = .next t ∧ t.sc.temp = some temp ∧
      t.scan = { s.scan with thermistor := raw.toNat } ∧ t = { s with scan := t.scan, sc := t.sc, se := t.se } ∧
      (
        let x : Int := raw.toNat
        let reading : Nat → Int := fun j => setting s (485 + 2 * j)
        let celsius : Nat → Int := fun j => (setting s (486 + 2 * j) : Int) - 40
        ((∀ j, j < 8 → x < reading j) → temp = celsius 0) ∧ (reading 7 ≤ x → temp = celsius 7) ∧
        ∀ j, j < 7 → reading j ≤ x → (∀ i, j < i → i < 8 → x < reading i) →
          temp = celsius j + ((celsius (j + 1) - celsius j) * (x - reading j)).tdiv (reading (j + 1) - reading j)) ∧
      (t.sc.thermFault = true ↔ raw.toNat < 40 ∨ 4050 < raw.toNat) ∧
      let target : Int := setting s 32
      let heats := s.sc.smoke = .preheat ∨ s.sc.smoke = .ready
      let dry := t.sc.thermFault = true ∨ target + setting s 33 < temp
      let demand := if target ≤ temp then 0 else min 255 ((target - temp).toNat * setting s 34)
      (heats → dry →
        t.sc =
          { s.sc with
            temp := some temp, thermFault := t.sc.thermFault, smoke := .dry, demand := 0, duty := 0, fan := 0
            puff := none } ∧
        t.se = (raiseCue .smokeDry none s).se) ∧
      (heats → ¬ dry →
        (
          let ready := s.sc.smoke = .preheat ∧ target - 10 ≤ temp
          t.sc =
            { s.sc with
              temp := some temp, thermFault := t.sc.thermFault, smoke := if ready then .ready else s.sc.smoke
              demand := demand, duty := if s.ps.outputsOff then 0 else min demand s.sc.cap
              fan :=
                if ready ∧ setting s 19 = 1 ∧ s.ps.outputsOff = false then
                  (if s.sc.burst.isSome then 255 else min 255 (setting s 39 + s.mt.l * setting s 40 / 255))
                else s.sc.fan }) ∧
        t.se = s.se) ∧
      (¬ heats →
        t.sc = { s.sc with temp := some temp, thermFault := t.sc.thermFault, demand := 0, duty := 0 } ∧
        t.se = s.se)) ∧
  ∀ s : State,
    let heats : Sc → SmokeState → State → Prop := fun c st t =>
      t = { s with sc := t.sc, se := t.se } ∧ EntersHeating s c st t.sc t.se
    let still := { s.sc with purge := none, fan := 0 }
    (s.sc.smoke = .off → s.ps.power = .normal → heats still .preheat (smokeEnableReport true s)) ∧
    (s.sc.smoke = .off → s.ps.power ≠ .normal →
      smokeEnableReport true s = { s with sc := { still with smoke := .shed, demand := 0, duty := 0 } }) ∧
    (s.sc.smoke ≠ .off → smokeEnableReport true s = s) ∧
    (s.sc.smoke = .preheat ∨ s.sc.smoke = .ready ∨ s.sc.smoke = .shed → s.ps.outputsOff = true → setting s 41 ≠ 0 →
      smokeEnableReport false s = s) ∧
    (s.sc.smoke = .preheat ∨ s.sc.smoke = .ready ∨ s.sc.smoke = .shed → s.ps.outputsOff = false ∨ setting s 41 = 0 →
      smokeEnableReport false s =
        { s with
          sc := { s.sc with
            smoke := .off, demand := 0, duty := 0, puff := none, burst := none
            fan := if setting s 41 = 0 then 0 else 128
            purge := if setting s 41 = 0 then none else some 0
            purgeLimit := setting s 41 } }) ∧
    (s.sc.smoke = .dry →
      smokeEnableReport false s = { s with sc := { s.sc with smoke := .off, demand := 0, duty := 0, fan := 0 } }) ∧
    (s.sc.smoke = .off → smokeEnableReport false s = s) ∧
    (∀ old, s.sc.smoke = .shed → old ≠ .normal →
      heats s.sc (match s.sc.temp with
        | some temp => if (setting s 32 : Int) - 10 ≤ temp then .ready else .preheat
        | none => .preheat) (smokePower old .normal s)) ∧
    ∀ old new, s.sc.smoke = .off ∨ s.sc.smoke = .dry ∨ (s.sc.smoke = .shed ∧ (new ≠ .normal ∨ old = .normal)) →
      smokePower old new s = s

/-! ### Sound -/

/-- R118 to R123: an output sample mixes the first samples of the voices' buffers under the master volume, each sounding
voice advances by its step, wraps from loop end to loop start while its loop is in force, and becomes free at its length; a
voice without its sample waits. R115, R116: each voice tests its refill request, and an idle port grants an entry read that
waits, or the pending refill whose turn it is. That the port is granted when the event's other effects on the voices are
done, so that a refill asked for in this very event takes part in the choice, is the model's reading (assumption 18). The
count of passed samples, `skip`, is the model's own (assumption 19). -/
def Obligations.OutputSampleMixes : Prop :=
  ∀ s : State, s.phase = .running →
    (s.ps.outputsOff = true → exec .outputSample s = .next s) ∧
    (s.ps.outputsOff = false →
      ∃ t, exec .outputSample s = .next t ∧
        t = { s with se := t.se } ∧
        (
          let heard : Fin 8 → Int := fun i =>
            let v := s.se.voices[i]
            match v.st, v.buffer with
            | .playing, x :: _ | .looping, x :: _ | .releasing, x :: _ => (x.toInt * v.volume).fdiv 256
            | _, _ => 0
          let master : Int :=
            if s.se.mute then 0
            else if s.ps.power = .normal ∨ s.ps.power = .bridging then setting s 42 else (setting s 42 / 2 : Nat)
          let mixed := heard 0 + heard 1 + heard 2 + heard 3 + heard 4 + heard 5 + heard 6 + heard 7
          t.se.output = max (-32768) (min 32767 ((mixed * master).fdiv 256))) ∧
        (∀ i : Fin 8, RefillTested s.se.voices[i] t.se.voices[i]) ∧
        (s.se.port ≠ .idle →
          t.se.port = s.se.port ∧ t.se.lastServed = s.se.lastServed ∧ t.se.entryWaiting = s.se.entryWaiting ∧
          ∀ i : Fin 8, t.se.voices[i].refill = .inTransfer → s.se.voices[i].refill = .inTransfer) ∧
        (s.se.port = .idle →
          PortServes s.se.lastServed s.se.entryWaiting
            (fun i => t.se.voices[i].refill ≠ .none ∧ s.se.voices[i].refill ≠ .inTransfer) t.se) ∧
        (t.se.pwm : Int) = (t.se.output + 32768).fdiv 64 ∧ t.se.pwm ≤ 1023 ∧ t.se.queue = s.se.queue ∧
        (∀ i : Fin 8, s.se.voices[i].st = .free ∨ s.se.voices[i].st = .opening →
          t.se.voices[i].st = s.se.voices[i].st) ∧
        (∀ i : Fin 8, s.se.voices[i].buffer = [] →
          t.se.voices[i].st = s.se.voices[i].st ∧ t.se.voices[i].position = s.se.voices[i].position) ∧
        (∀ i : Fin 8, s.se.voices[i].st = .playing ∨ s.se.voices[i].st = .releasing → s.se.voices[i].loopOn = false →
          s.se.voices[i].buffer ≠ [] →
          let v := s.se.voices[i]
          let stride :=
            if v.cls = .chuff ∨ v.cls = .ambient then
              min 2047 (v.baseStep + v.baseStep * setting s 43 * s.slu.r / 262144)
            else v.baseStep
          (v.length ≤ (v.position + stride) / 256 → t.se.voices[i].st = .free) ∧
          ((v.position + stride) / 256 < v.length →
            t.se.voices[i].st = v.st ∧ t.se.voices[i].position = v.position + stride ∧
            t.se.voices[i].buffer = v.buffer.drop ((v.position + stride) / 256 - v.position / 256))) ∧
        ∀ i : Fin 8, s.se.voices[i].st = .playing ∨ s.se.voices[i].st = .looping → s.se.voices[i].loopOn = true →
          s.se.voices[i].loopStart < s.se.voices[i].loopEnd → s.se.voices[i].buffer ≠ [] →
          let v := s.se.voices[i]
          let stride :=
            if v.cls = .chuff ∨ v.cls = .ambient then
              min 2047 (v.baseStep + v.baseStep * setting s 43 * s.slu.r / 262144)
            else v.baseStep
          let reached := (v.position + stride) / 256
          let passed := reached - v.position / 256
          let looping := v.st = .looping ∨ v.loopStart ≤ reached
          t.se.voices[i].st = (if looping then .looping else .playing) ∧
          (reached < v.loopEnd → t.se.voices[i].position = v.position + stride) ∧
          (v.loopEnd ≤ reached →
            t.se.voices[i].position / 256 = v.loopStart + (reached - v.loopEnd) % (v.loopEnd - v.loopStart) ∧
            t.se.voices[i].position % 256 = (v.position + stride) % 256 ∧
            t.se.voices[i].position / 256 < v.loopEnd) ∧
          t.se.voices[i].buffer = v.buffer.drop passed ∧
          t.se.voices[i].skip = v.skip + (passed - v.buffer.length))

/-- R101, R103: the header read ends in VALID, with the number of sounds, the cue table and the project ID, or in
NO_PROJECT. R109: the cues that waited for it take their sounds and priorities from the table, and the allocator begins with
the oldest. R104 to R106, R108, R109: what a cue raised to the Sound Engine does to the Cue Queue while no cue can be taken
from it. That a queued cue holds its variant and priority 0 while CHECKING is the model's form (assumption 20), and that an
engine cue without a sound still acts on the ambient sound its choice (assumption 34). -/
def Obligations.HeaderReadDecides : Prop :=
  (∀ (s : State) (bytes : Vector Byte 64), s.phase = .running → s.ss.working.wf = true →
    let byte : Nat → Nat := fun i => ((bytes[i]?).map (·.toNat)).getD 0
    let good := byte 0 = 0x50 ∧ byte 1 = 0x5A ∧ byte 2 = 0x53 ∧ byte 3 = 0x50 ∧ byte 6 ≠ 0
    (s.se.port ≠ .header → exec (.headerReadDone bytes) s = .next s) ∧
    (s.se.port = .header → s.ps.outputsOff = true →
      exec (.headerReadDone bytes) s = .next { s with se := { s.se with port := .idle } }) ∧
    (s.se.port = .header → s.ps.outputsOff = false →
      ∃ t, exec (.headerReadDone bytes) s = .next t ∧ t.phase = s.phase ∧
        t = { s with se := t.se, ss := { s.ss with working := t.ss.working } } ∧
        (∀ i, i ≠ 504 → setting t i = setting s i) ∧
        (good →
          (
            let sound : Cue → Nat := fun c => (c.kind.record.map fun n => t.se.cueTable[n].1).getD 0
            let priority : Cue → Nat := fun c => (c.kind.record.map fun n => t.se.cueTable[n].2).getD 0
            let waited := s.se.queue.filter fun c : Cue => decide (c.kind = .direct ∨ sound c ≠ 0)
            let known := waited.map fun c : Cue =>
              if c.kind = .direct then
                { c with
                  priority :=
                    match c.origin with | .map e => 8 + (7 - e.val / 4) | .matcher _ => 6 | .system => 0 }
              else { c with sound := sound c + c.sound, priority := priority c }
            (∃ taken, known = taken ++ t.se.queue) ∧ (s.se.alloc ≠ none → t.se.queue = known) ∧
              (t.se.queue ≠ [] → t.se.alloc ≠ none)) ∧
          t.se.dir = .valid ∧ t.se.soundCount = byte 6 ∧ setting t 504 = byte 4 + 256 * byte 5 ∧
          ∀ k : Fin 16, t.se.cueTable[k] = (byte (7 + 2 * k.val), min 15 (byte (8 + 2 * k.val)))) ∧
        (¬ good →
          t.se = { s.se with port := .idle, dir := .noProject, queue := [] } ∧ setting t 504 = 0))) ∧
  ∀ s : State, s.ps.outputsOff = false → s.se.dir = .checking ∨ (s.se.dir = .valid ∧ s.se.alloc ≠ none) →
    let queued : List Cue → State := fun q => { s with se := { s.se with queue := q } }
    let joins : Cue → State → Prop := fun c t =>
      let q := s.se.queue
      let chuff := fun d : Cue => d.kind = .chuffLight ∨ d.kind = .chuffHeavy
      (∀ before d after, chuff c → q = before ++ d :: after → chuff d → (∀ x ∈ before, ¬ chuff x) →
        t = queued (before ++ c :: after)) ∧
      (¬ chuff c ∨ (∀ d ∈ q, ¬ chuff d) →
        (q.length < 16 → t = queued (q ++ [c])) ∧
        (16 ≤ q.length → s.se.dir = .checking → t = s) ∧
        (16 ≤ q.length → (∀ d ∈ q, c.priority ≤ d.priority) → t = s) ∧
        ∀ before d after, 16 ≤ q.length → s.se.dir = .valid → q = before ++ d :: after →
          (∀ x ∈ before, d.priority < x.priority) → (∀ x ∈ after, d.priority ≤ x.priority) → d.priority < c.priority →
          t = queued (before ++ after ++ [c]))
    let rings : CueKind → Option Nat → State → Prop := fun k chuff t =>
      ∀ n, k.record = some n →
        let variant := (chuff.map fun i => i % setting s 46).getD 0
        (s.se.dir = .checking → joins ⟨k, variant, 0, .system, chuff⟩ t) ∧
        (s.se.dir = .valid → s.se.cueTable[n].1 = 0 → t = s) ∧
        (s.se.dir = .valid → s.se.cueTable[n].1 ≠ 0 →
          joins ⟨k, s.se.cueTable[n].1 + variant, s.se.cueTable[n].2, .system, chuff⟩ t)
    let ambient := (∃ c ∈ s.se.queue, c.kind = .ambient) ∨
      ∃ i : Fin 8, (∃ c, s.se.voices[i].cue = some c ∧ c.kind = .ambient) ∧ s.se.voices[i].st ≠ .free ∧
        s.se.voices[i].st ≠ .releasing
    (∀ k chuff, k ≠ .ambient → k ≠ .engineStart → k ≠ .engineStop → rings k chuff (raiseCue k chuff s)) ∧
    (∀ e n, joins ⟨.direct, n, if s.se.dir = .checking then 0 else 8 + (7 - e.val / 4), .map e, none⟩
      (raiseDirect (.map e) n s)) ∧
    (∀ m n, joins ⟨.direct, n, if s.se.dir = .checking then 0 else 6, .matcher m, none⟩
      (raiseDirect (.matcher m) n s)) ∧
    (ambient → raiseCue .ambient none s = s) ∧ (¬ ambient → rings .ambient none (raiseCue .ambient none s)) ∧
    (setting s 19 ≠ 1 → rings .engineStart none (raiseCue .engineStart none s) ∧
      rings .engineStop none (raiseCue .engineStop none s)) ∧
    (setting s 19 = 1 →
      ∃ u, rings .engineStart none u ∧ raiseCue .engineStart none s = raiseCue .ambient none u) ∧
    (setting s 19 = 1 → (∀ c ∈ s.se.queue, c.kind ≠ .ambient) →
      (∀ (i : Fin 8) c, s.se.voices[i].cue = some c → c.kind ≠ .ambient) →
      rings .engineStop none (raiseCue .engineStop none s)) ∧
    (setting s 19 = 1 → (∀ c ∈ (raiseCue .engineStop none s).se.queue, c.kind ≠ .ambient) ∧
      ∀ (i : Fin 8) c, s.se.voices[i].cue = some c → c.kind = .ambient →
        let v := (raiseCue .engineStop none s).se.voices[i]
        (s.se.voices[i].st = .playing ∨ s.se.voices[i].st = .looping → v.st = .releasing ∧ v.loopOn = false) ∧
        (s.se.voices[i].st = .opening → v = { s.se.voices[i] with cancel := true }) ∧
        (s.se.voices[i].st = .releasing ∨ s.se.voices[i].st = .free → v = s.se.voices[i]))

/-- R102, R112, R121: the entry read opens the voice with the entry's fields, or frees it when the cue was cancelled or the
entry is empty, as one whose samples run past the 16 MiB of the Sound Store is; with no cue waiting nothing else is
allocated. That a loop start or loop end above the range kept leaves the entry without a loop is the model's choice
(assumption 45). R115, R116: the voice that starts asks for a refill, and the port grants the read whose turn it is. R100,
R110, R111, R115: the allocator's choice of a voice, and what it does with the oldest cue: it is dropped, or its voice opens
and the entry read is asked for at the entry's address. That the port which a completion idles is granted when the event's
other effects are done, so that the started voice's own refill takes part in the choice and the allocator's next entry read
goes before every refill, is the model's reading (assumption 18). -/
def Obligations.EntryReadOpens : Prop :=
  (∀ (s : State) (bytes : Vector Byte 16) (i : Fin 8) (c : Cue), s.phase = .running → s.ps.outputsOff = false →
    s.se.queue = [] → s.se.alloc = some i → s.se.voices[i].cue = some c → s.se.entryWaiting = none →
    let byte : Nat → Nat := fun n => ((bytes[n]?).map (·.toNat)).getD 0
    let three : Nat → Nat := fun n => byte n + 256 * byte (n + 1) + 65536 * byte (n + 2)
    let chuff := c.kind = .chuffLight ∨ c.kind = .chuffHeavy
    ((∀ a, s.se.port ≠ .entry a) → exec (.entryReadDone bytes) s = .next s) ∧
    (∀ a, s.se.port = .entry a →
      ∃ t, exec (.entryReadDone bytes) s = .next t ∧ t = { s with se := t.se } ∧ t.se.alloc = none ∧
        t.se.queue = [] ∧
        PortServes s.se.lastServed none
          (fun k => t.se.voices[k].refill ≠ .none ∧ (k = i ∨ s.se.voices[k].refill ≠ .inTransfer)) t.se ∧
        let v := t.se.voices[i]
        (s.se.voices[i].cancel = true ∨ three 3 = 0 ∨ 16777216 < three 0 + 2 * three 3 →
          v.st = .free ∧ v.cue = none) ∧
        (s.se.voices[i].cancel = false → 0 < three 3 → three 3 ≤ 8388607 → three 0 + 2 * three 3 ≤ 16777216 →
          v.start = three 0 ∧ v.length = three 3 ∧ v.position = 0 ∧ v.buffer = [] ∧ v.fetch = 0 ∧ v.cue = some c ∧
          v.baseStep = max 64 (min 1024 (byte 12 + 256 * byte 13)) ∧ v.baseVolume = byte 14 ∧
          v.cls =
            (if chuff then .chuff else if byte 15 = 1 then .looped else if byte 15 = 3 then .ambient else .oneShot) ∧
          v.loopStart = three 6 ∧ v.loopEnd = three 9 ∧ v.refill ≠ .none ∧
          (v.loopOn = true ↔
            (three 6 < three 9 ∧ three 9 ≤ three 3) ∧ ¬ chuff ∧ (byte 15 = 1 ∨ byte 15 = 3)) ∧
          v.st = (if v.loopOn = true ∧ three 6 = 0 then .looping else .playing) ∧
          (chuff → setting s 44 ≤ 255 → setting s 45 ≤ 255 → s.mt.l ≤ 255 →
            (v.volume : Int) =
              (byte 14 * ((setting s 44 : Int) + (((setting s 45 : Int) - setting s 44) * s.mt.l).fdiv 255)).fdiv
                255) ∧
          (¬ chuff → v.volume = byte 14)))) ∧
  (∀ (b : Se) (c : Cue),
    let used := fun i : Fin 8 => b.voices[i].st ≠ .free
    let beat := fun i : Fin 8 => (c.kind = .chuffLight ∨ c.kind = .chuffHeavy) ∧ used i ∧ b.voices[i].cls = .chuff
    let priority := fun i : Fin 8 => (b.voices[i].cue.map (·.priority)).getD 0
    (∀ i, beat i → (∀ j, j < i → ¬ beat j) → chooseVoice b c = some i) ∧
    ((∀ j, ¬ beat j) → ∀ i, ¬ used i → (∀ j, j < i → used j) → chooseVoice b c = some i) ∧
    ((∀ j, ¬ beat j) → (∀ j, used j) →
      (∀ i, priority i < c.priority → (∀ j, priority i ≤ priority j) →
        (∀ j, j ≠ i → priority j = priority i → b.voices[i].order < b.voices[j].order) →
        chooseVoice b c = some i) ∧
      ((∀ j, c.priority ≤ priority j) → chooseVoice b c = none))) ∧
  ∀ (s : State) (c : Cue) (rest : List Cue),
    (c.sound = 0 ∨ s.se.soundCount < c.sound ∨ chooseVoice s.se c = none →
      allocateFrom (c :: rest) s = allocateFrom rest s) ∧
    ∀ i : Fin 8, 1 ≤ c.sound → c.sound ≤ s.se.soundCount → chooseVoice s.se c = some i →
      let opened : Se :=
        { s.se with
          queue := rest, alloc := some i, openCount := s.se.openCount + 1
          voices := s.se.voices.set i
            { Voice.freed with st := .opening, cue := some c, order := s.se.openCount } }
      let address := 64 + 16 * (c.sound - 1)
      (s.se.port = .idle →
        grantPort (allocateFrom (c :: rest) s) =
          { s with se := { opened with port := .entry address, entryWaiting := none } }) ∧
      (s.se.port ≠ .idle →
        grantPort (allocateFrom (c :: rest) s) = { s with se := { opened with entryWaiting := some address } }) ∧
      ∀ (bytes : Vector Byte 16) (d : Cue) (j : Fin 8) (a : Nat), s.phase = .running → s.ps.outputsOff = false →
        s.se.dir = .valid → s.se.port = .entry a → s.se.entryWaiting = none → s.se.alloc = some j →
        s.se.voices[j].cue = some d → s.se.voices[j].cancel = true → s.se.queue = c :: rest →
        (let freed := { s.se with port := .idle, alloc := none, voices := s.se.voices.set j Voice.freed }
         chooseVoice freed c = some j →
          exec (.entryReadDone bytes) s =
            .next { s with
              se := { freed with
                queue := rest, alloc := some j, openCount := s.se.openCount + 1, port := .entry address
                voices := freed.voices.set j
                  { Voice.freed with st := .opening, cue := some c, order := s.se.openCount } } })

/-- R100, R116, R117: a refill brings its samples, low byte first, to the end of the voice's buffer, but for those that the
voice has passed, and in RELEASING those after the refill's wrap; one for a voice that has become free, and a completion
that no refill awaits, bring nothing; the voice then tests its refill request, and the port grants the read whose turn it is
(R115), a refill at the addresses of the voice's next samples. R107, R114: what a RELEASE does to the queue and the voices
of its origin. That a voice in RELEASING takes nothing of a refill whose fetch point was set anew, and when it is, is the
model's reading (assumption 35), and so is that the port is granted after the voice's own test, whose new refill takes part
in the choice (assumption 18); the count `skip` is its own (assumption 19). -/
def Obligations.RefillBringsSamples : Prop :=
  (∀ (s : State) (bytes : Vector Byte 32), s.phase = .running →
    (s.se.port = .idle ∨ s.se.port = .header ∨ (∃ a, s.se.port = .entry a) →
      exec (.refillDone bytes) s = .next s) ∧
    ∀ (i : Fin 8) (addresses : List Nat) (start pre : Nat), s.se.port = .refill i addresses start pre →
      ∃ t, exec (.refillDone bytes) s = .next t ∧ t = { s with se := t.se } ∧
        (s.se.voices[i].refill ≠ .inTransfer → t.se.voices[i].buffer = s.se.voices[i].buffer) ∧
        (s.se.voices[i].refill = .inTransfer → addresses.length ≤ 16 →
          let v := s.se.voices[i]
          let brought := (List.ofFn fun j : Fin 16 => bytes[2 * j.val + 1] ++ bytes[2 * j.val]).take addresses.length
          let taken :=
            if v.st = .releasing then (if v.fetch = start then brought.take pre else []) else brought
          t.se.voices[i].buffer = v.buffer ++ taken.drop v.skip ∧ t.se.voices[i].skip = v.skip - taken.length ∧
          t.se.voices[i].position = v.position ∧ t.se.voices[i].st = v.st ∧
          (v.loopOn = false ∨ v.fetch + taken.length < v.loopEnd →
            t.se.voices[i].fetch = v.fetch + taken.length) ∧
          (v.loopOn = true → v.loopStart < v.loopEnd → v.loopEnd ≤ v.fetch + taken.length →
            t.se.voices[i].fetch =
              v.loopStart + (v.fetch + taken.length - v.loopEnd) % (v.loopEnd - v.loopStart))) ∧
        (∀ k : Fin 8, k ≠ i →
          t.se.voices[k].buffer = s.se.voices[k].buffer ∧ t.se.voices[k].position = s.se.voices[k].position ∧
          t.se.voices[k].st = s.se.voices[k].st) ∧
        (s.se.voices[i].refill = .inTransfer →
          RefillTested { s.se.voices[i] with refill := .none } t.se.voices[i]) ∧
        PortServes s.se.lastServed s.se.entryWaiting
          (fun k => t.se.voices[k].refill ≠ .none ∧ (k = i ∨ s.se.voices[k].refill ≠ .inTransfer)) t.se) ∧
  ∀ (s : State) (e : Fin 24),
    let t := releaseEntry e s
    let own := fun c : Cue => c.kind = .direct ∧ c.origin = .map e
    t = { s with se := { s.se with queue := t.se.queue, voices := t.se.voices } } ∧
    t.se.queue = s.se.queue.filter (fun c => decide (¬ own c)) ∧
    ∀ i : Fin 8,
      let v := s.se.voices[i]
      let point := v.position / 256
      let wrapped := v.loopOn = true ∧ v.fetch + v.skip ≠ point + v.buffer.length
      let kept := v.buffer.take (v.loopEnd - point)
      ((∀ c, v.cue = some c → ¬ own c) → t.se.voices[i] = v) ∧
      ∀ c, v.cue = some c → own c →
        (v.st = .releasing ∨ v.st = .free → t.se.voices[i] = v) ∧
        (v.st = .opening → t.se.voices[i] = { v with cancel := true }) ∧
        (v.st = .playing ∨ v.st = .looping → ¬ wrapped →
          t.se.voices[i] = { v with st := .releasing, loopOn := false }) ∧
        (v.st = .playing ∨ v.st = .looping → wrapped →
          t.se.voices[i] =
            { v with
              st := .releasing, loopOn := false, buffer := kept, fetch := point + kept.length, skip := 0 })

/-! ### Power -/

/-- R23, R126, R128, R132, R137: a Vin reading keeps the count of low readings in NORMAL, the return count otherwise, and
brings the loss of the input, its return, or in DOWN after the save the WARM restart. R34, R83, R84, R88: what the loss and
the return do to the lights, the smoke unit and the bridge. That the WARM restart begins with its clearing write whatever
the mark, where R138 has an absent mark restart COLD, is the model's reading: the save has written the mark (assumption 28).
-/
def Obligations.VinReadingCounts : Prop :=
  ∀ (s : State) (raw : Raw), s.phase = .running →
    let vin := raw.toNat * 100 / 1024
    let seen : State := { s with scan := { s.scan with vin := vin } }
    let back := if 70 ≤ vin then s.ps.back + 1 else 0
    (s.ps.power = .normal → 60 ≤ vin →
      exec (.vinReading raw) s = .next { seen with ps := { s.ps with lost := 0 } }) ∧
    (s.ps.power = .normal → vin < 60 → s.ps.lost = 0 →
      exec (.vinReading raw) s = .next { seen with ps := { s.ps with lost := 1 } }) ∧
    (s.ps.power = .normal → vin < 60 → s.ps.lost ≠ 0 →
      ∃ t, exec (.vinReading raw) s = .next t ∧
        t.ps = { s.ps with power := .bridging, lost := 0, back := 0, bridging := some 0 } ∧
        t.se = (raiseCue .lowPower none s).se ∧
        t.sc =
          (if s.sc.smoke = .preheat ∨ s.sc.smoke = .ready then
            { s.sc with smoke := .shed, demand := 0, duty := 0, fan := 0, puff := none }
           else s.sc) ∧
        t = { seen with ps := t.ps, fe := litFe false s, sc := t.sc, se := t.se }) ∧
    (s.ps.power = .bridging ∨ s.ps.power = .dimmed ∨ s.ps.power = .coasting → back < 4 →
      exec (.vinReading raw) s = .next { seen with ps := { s.ps with back := back } }) ∧
    (s.ps.power = .bridging ∨ s.ps.power = .dimmed ∨ s.ps.power = .coasting → 4 ≤ back →
      ∃ t, exec (.vinReading raw) s = .next t ∧
        t.ps = { s.ps with power := .normal, back := 0, bridging := none } ∧
        (s.ps.power ≠ .coasting →
          SmokeReturns s t.sc t.se ∧
          t = { seen with ps := t.ps, ml := { s.ml with i16 := 0 }, fe := litFe false s, sc := t.sc, se := t.se }) ∧
        (s.ps.power = .coasting →
          let r := min s.ml.m s.slu.tEff
          t.slu.r = r ∧ t.slu.f = 0 ∧ (s.ml.bridge ≠ .drive → t.ml = { s.ml with i16 := 0 }) ∧
          ((0 < s.slu.r ↔ 0 < r) → (r = 0 → s.ct.requested = s.slu.travel) →
            SmokeReturns s t.sc t.se ∧
            t = { seen with
              ps := t.ps, ml := { s.ml with i16 := 0 }, slu := { s.slu with r := r, f := 0 }, fe := litFe false s
              sc := t.sc, se := t.se }) ∧
          (s.ss.deferred = [] →
            t = { seen with
              ps := t.ps, ml := t.ml, slu := t.slu, fe := t.fe, sc := t.sc, se := t.se, orderCount := t.orderCount }))) ∧
    (s.ps.power = .down → s.ps.stage ≠ .ended ∨ min 4 back ≠ 4 →
      exec (.vinReading raw) s = .next { seen with ps := { s.ps with back := min 4 back } }) ∧
    (s.ps.power = .down → s.ps.stage = .ended → min 4 back = 4 → s.nv.write = none →
      exec (.vinReading raw) s =
        .next { seen with
          ps := { s.ps with back := 4 }, nv := { s.nv with write := some (.restart, .clearMark) } })

/-- R23, R34, R83, R84, R129, R131, R134, R135, R140, R183: a store reading sheds to the deepest level it falls below, with
every light halved; DOWN stops the writes, discards the Deferred List, ends a rewrite, abandons a pending restart and begins
the save's first write, as which an abandoned restart's write in transfer counts. That the save is then in its ODOMETER
stage, where that write is the Odometer's, is the model's reading (assumption 23); that a bridge that drove coasts in a gap
too is its choice (assumption 43). -/
def Obligations.VsReadingSheds : Prop :=
  ∀ (s : State) (raw : Raw), s.phase = .running →
    let vs := raw.toNat * 100 / 1024
    let seen : State := { s with scan := { s.scan with vs := vs } }
    let coasted := if s.ml.bridge = .drive then { s.ml with bridge := .coast, d := 0 } else s.ml
    (s.ps.power = .normal ∨ s.ps.power = .down → exec (.vsReading raw) s = .next seen) ∧
    (s.ps.power = .bridging → setting s 52 ≤ vs → setting s 51 ≤ vs → setting s 50 ≤ vs →
      exec (.vsReading raw) s = .next seen) ∧
    (s.ps.power = .bridging → setting s 52 ≤ vs → setting s 51 ≤ vs → vs < setting s 50 →
      exec (.vsReading raw) s = .next { seen with ps := { s.ps with power := .dimmed }, fe := litFe true s }) ∧
    (s.ps.power = .dimmed → setting s 52 ≤ vs → setting s 51 ≤ vs → exec (.vsReading raw) s = .next seen) ∧
    (s.ps.power = .bridging ∨ s.ps.power = .dimmed → setting s 52 ≤ vs → vs < setting s 51 →
      exec (.vsReading raw) s =
        .next { seen with
          ps := { s.ps with power := .coasting, bridging := none }, ml := coasted, fe := litFe true s }) ∧
    (s.ps.power = .coasting → setting s 52 ≤ vs → exec (.vsReading raw) s = .next seen) ∧
    (s.ps.power = .bridging ∨ s.ps.power = .dimmed ∨ s.ps.power = .coasting → vs < setting s 52 →
      ∃ t, exec (.vsReading raw) s = .next t ∧ t.ps.power = .down ∧ t.ps.bridging = none ∧
        t.ps.pendingRestart = none ∧ t.ps.back = s.ps.back ∧ t.ml = coasted ∧
        t.ss.writeStop = true ∧ t.ss.deferred = [] ∧ t.ss.rewrite = none ∧ t.ss.working = s.ss.working ∧
        (s.nv.write ≠ none → t.nv = s.nv ∧ t.ss.persist = s.ss.persist) ∧
        (∀ v, s.nv.write = some (.pending, .odometer v) → s.ss.persist = [] → t.ps.stage = .odometer) ∧
        (s.nv.write ≠ none → (∀ v, s.nv.write ≠ some (.pending, .odometer v)) ∨ s.ss.persist ≠ [] →
          t.ps.stage = .persist) ∧
        (s.nv.write = none → s.ss.persist = [] →
          t.ps.stage = .odometer ∧ t.nv = { s.nv with write := some (.save, .odometer s.mt.odometer) }) ∧
        (∀ e rest, s.nv.write = none → s.ss.persist = e :: rest →
          t.ps.stage = .persist ∧ t.ss.persist = { e with inTransfer := true } :: rest ∧
          t.nv = { s.nv with write := some (.save, .slot e.index (setting s e.index)) }) ∧
        t = { seen with ps := t.ps, ml := t.ml, fe := litFe true s, ss := t.ss, nv := t.nv })

/-- R135, R137, R182: each write of the DOWN save lands and begins the next, in order: the Persist Queue, in which an entry
with the again mark moves to the tail, the Odometer, the Resume Record, its mark; after the mark the outputs go off, or with
the input back the WARM restart begins. That this command does nothing for a write in transfer of another purpose is the
model's choice (assumption 24). -/
def Obligations.SaveWritesInOrder : Prop :=
  ∀ s : State, s.phase = .running →
    (∀ i v, s.nv.write = some (.save, .slot i v) → s.ps.stage = .persist → s.ss.persist = [⟨i, true, false⟩] →
      exec .saveWriteDone s =
        .next { s with
          ps := { s.ps with stage := .odometer }, ss := { s.ss with persist := [] }
          nv := { s.nv with slots := s.nv.slots.write i v, write := some (.save, .odometer s.mt.odometer) } }) ∧
    (∀ i v e rest, s.nv.write = some (.save, .slot i v) → s.ps.stage = .persist →
      s.ss.persist = ⟨i, true, false⟩ :: e :: rest →
      exec .saveWriteDone s =
        .next { s with
          ss := { s.ss with persist := { e with inTransfer := true } :: rest }
          nv := { s.nv with
            slots := s.nv.slots.write i v, write := some (.save, .slot e.index (setting s e.index)) } }) ∧
    (∀ i v rest e more, s.nv.write = some (.save, .slot i v) → s.ps.stage = .persist →
      s.ss.persist = ⟨i, true, true⟩ :: rest → rest ++ [⟨i, false, false⟩] = e :: more →
      exec .saveWriteDone s =
        .next { s with
          ss := { s.ss with persist := { e with inTransfer := true } :: more }
          nv := { s.nv with
            slots := s.nv.slots.write i v, write := some (.save, .slot e.index (setting s e.index)) } }) ∧
    (∀ v, s.nv.write = some (.save, .odometer v) →
      ∃ c : ResumeRecord, exec .saveWriteDone s =
          .next { s with
            ps := { s.ps with stage := .resume }
            nv := { s.nv with odometer := v, write := some (.save, .record c) } } ∧
        c.target = s.ct.target ∧ c.requested = s.ct.requested ∧
        (∀ n : Fin 32, c.functions[n] = (s.ct.functions[n] && !isMomentary s n.val)) ∧
        (driverEntry s = none → c.driver = none) ∧
        (∀ e scope lost, driverEntry s = some e → e.role = .driver scope lost → c.driver = some (e.id, scope)) ∧
        c.consist = setting s 2 ∧ (c.orientation = .reversed ↔ setting s 3 % 2 = 1) ∧
        (c.role = .trail ↔ setting s 3 / 2 % 2 = 1)) ∧
    (∀ c, s.nv.write = some (.save, .record c) →
      exec .saveWriteDone s =
        .next { s with
          ps := { s.ps with stage := .mark }, nv := { s.nv with record := c, write := some (.save, .mark) } }) ∧
    (s.nv.write = some (.save, .mark) → s.ps.back = 4 →
      exec .saveWriteDone s =
        .next { s with
          ps := { s.ps with stage := .ended }
          nv := { s.nv with markPresent := true, write := some (.restart, .clearMark) } }) ∧
    (s.nv.write = some (.save, .mark) → s.ps.back ≠ 4 →
      ∃ t, exec .saveWriteDone s = .next t ∧ t.ps = { s.ps with stage := .ended, outputsOff := true } ∧
        t.nv = { s.nv with markPresent := true, write := none } ∧
        t.ml = { s.ml with bridge := .coast, d := 0, i16 := 0, retry := none } ∧
        t.sc = { s.sc with duty := 0, fan := 0, puff := none, burst := none, purge := none } ∧
        t.se.pwm = 0 ∧ t.se.queue = [] ∧ t.se.alloc = none ∧ (∀ i : Fin 8, t.se.voices[i] = Voice.freed) ∧
        (∀ k : Fin 8, t.fe.gens[k] = { s.fe.gens[k] with brightness := 0 }) ∧ t.fe.lightEstimate = 0 ∧
        t = { s with ps := t.ps, nv := t.nv, ml := t.ml, sc := t.sc, se := t.se, fe := t.fe }) ∧
    ((∀ job, s.nv.write ≠ some (.save, job)) → exec .saveWriteDone s = .next s)

/-- R140, R141, R182, R183: the writes of the background persistence, of a pending restart and of the rewrite land, and what
waits then follows: the next entry of the Persist Queue begins, and an entry with the again mark has moved to the tail; a
background write that DOWN, an accepted RESTART or the start of the rewrite finds in transfer completes first, and so does a
rewrite's write that DOWN or a RESTART finds. R134, R135, R140: a write of a restart that DOWN has abandoned counts as the
save's, and the save goes on from it; that the Odometer's is then the save's Odometer write is the model's reading
(assumption 23). That the command of another purpose does nothing, and that this command still ends an abandoned restart's
write, is the model's choice (assumption 24). -/
def Obligations.WritesLand : Prop :=
  ∀ s : State, s.phase = .running →
    let leaves : Nat → List PersistEntry → Prop := fun i left =>
      (s.ss.persist = [] ∧ left = []) ∨
        ∃ again rest, s.ss.persist = ⟨i, true, again⟩ :: rest ∧ left = rest ++ (if again then [⟨i, false, false⟩] else [])
    let sent : PersistEntry → List PersistEntry → List PersistEntry := fun e more => { e with inTransfer := true } :: more
    let landed : Nat → Nat → List PersistEntry → SaveStage → Option RestartKind → Option (NvPurpose × NvJob) → Result :=
      fun i v queue stage restart write =>
        .next { s with
          ps := { s.ps with stage := stage, pendingRestart := restart }
          ss := { s.ss with persist := queue }
          nv := { s.nv with slots := s.nv.slots.write i v, write := write } }
    (∀ i v left, s.nv.write = some (.background, .slot i v) → leaves i left →
      (s.ps.stage = .persist → left = [] →
        exec .persistWriteDone s = landed i v [] .odometer s.ps.pendingRestart (some (.save, .odometer s.mt.odometer))) ∧
      (s.ps.stage = .persist → ∀ e more, left = e :: more →
        exec .persistWriteDone s =
          landed i v (sent e more) .persist s.ps.pendingRestart (some (.save, .slot e.index (setting s e.index)))) ∧
      (s.ps.stage = .idle → s.ps.pendingRestart ≠ none → left = [] →
        exec .persistWriteDone s =
          landed i v [] .idle s.ps.pendingRestart (some (.pending, .odometer s.mt.odometer))) ∧
      (s.ps.stage = .idle → s.ps.pendingRestart ≠ none → ∀ e more, left = e :: more →
        exec .persistWriteDone s =
          landed i v (sent e more) .idle s.ps.pendingRestart (some (.pending, .slot e.index (setting s e.index)))) ∧
      (s.ps.stage = .idle → s.ps.pendingRestart = none →
        (∀ j, s.ss.rewrite = some j →
          exec .persistWriteDone s = landed i v left .idle none (some (.rewrite, .slot j (settingDefault j)))) ∧
        (s.ss.rewrite = none → left = [] → exec .persistWriteDone s = landed i v [] .idle none none) ∧
        (s.ss.rewrite = none → ∀ e more, left = e :: more →
          exec .persistWriteDone s =
            landed i v (sent e more) .idle none (some (.background, .slot e.index (setting s e.index)))))) ∧
    (∀ i v, s.nv.write = some (.rewrite, .slot i v) → s.ss.rewrite = none →
      (s.ps.stage = .persist → s.ss.persist = [] →
        exec .rewriteWriteDone s = landed i v [] .odometer s.ps.pendingRestart (some (.save, .odometer s.mt.odometer))) ∧
      (s.ps.stage = .persist → ∀ e more, s.ss.persist = e :: more →
        exec .rewriteWriteDone s =
          landed i v (sent e more) .persist s.ps.pendingRestart (some (.save, .slot e.index (setting s e.index)))) ∧
      (s.ps.stage = .idle → s.ps.pendingRestart ≠ none → s.ss.persist = [] →
        exec .rewriteWriteDone s =
          landed i v [] .idle s.ps.pendingRestart (some (.pending, .odometer s.mt.odometer))) ∧
      (s.ps.stage = .idle → s.ps.pendingRestart ≠ none → ∀ e more, s.ss.persist = e :: more →
        exec .rewriteWriteDone s =
          landed i v (sent e more) .idle s.ps.pendingRestart (some (.pending, .slot e.index (setting s e.index))))) ∧
    (∀ (sample : Raw) i v again kind rest e more, s.nv.write = some (.pending, .slot i v) → s.ps.stage = .idle →
      s.ps.pendingRestart = some kind → s.ss.persist = ⟨i, true, again⟩ :: rest →
      rest ++ (if again then [⟨i, false, false⟩] else []) = e :: more →
      exec (.pendingRestartWriteDone sample) s =
        .next { s with
          ss := { s.ss with persist := { e with inTransfer := true } :: more }
          nv := { s.nv with
            slots := s.nv.slots.write i v, write := some (.pending, .slot e.index (setting s e.index)) } }) ∧
    ((∀ job, s.nv.write ≠ some (.background, job)) → exec .persistWriteDone s = .next s) ∧
    (∀ (sample : Raw) i v kind, s.nv.write = some (.pending, .slot i v) → s.ps.stage = .idle →
      s.ps.pendingRestart = some kind → s.ss.persist = [⟨i, true, false⟩] →
      exec (.pendingRestartWriteDone sample) s =
        .next { s with
          ss := { s.ss with persist := [] }
          nv := { s.nv with slots := s.nv.slots.write i v, write := some (.pending, .odometer s.mt.odometer) } }) ∧
    (∀ (sample : Raw) v kind, s.nv.write = some (.pending, .odometer v) → s.ps.pendingRestart = some kind →
      exec (.pendingRestartWriteDone sample) s =
        .next (performRestart kind sample { s with nv := { s.nv with odometer := v, write := none } })) ∧
    (∀ (sample : Raw) v, s.nv.write = some (.pending, .odometer v) → s.ps.pendingRestart = none →
      s.ps.stage = .odometer →
      ∃ c : ResumeRecord, exec (.pendingRestartWriteDone sample) s =
          .next { s with
            ps := { s.ps with stage := .resume }
            nv := { s.nv with odometer := v, write := some (.save, .record c) } } ∧
        c.target = s.ct.target ∧ c.requested = s.ct.requested ∧
        (∀ n : Fin 32, c.functions[n] = (s.ct.functions[n] && !isMomentary s n.val)) ∧
        (driverEntry s = none → c.driver = none) ∧
        (∀ e scope lost, driverEntry s = some e → e.role = .driver scope lost → c.driver = some (e.id, scope)) ∧
        c.consist = setting s 2 ∧ (c.orientation = .reversed ↔ setting s 3 % 2 = 1) ∧
        (c.role = .trail ↔ setting s 3 / 2 % 2 = 1)) ∧
    (∀ (sample : Raw) i v, s.nv.write = some (.pending, .slot i v) → s.ps.stage = .persist →
      (s.ss.persist = [⟨i, true, false⟩] →
        exec (.pendingRestartWriteDone sample) s =
          .next { s with
            ps := { s.ps with stage := .odometer }, ss := { s.ss with persist := [] }
            nv := { s.nv with slots := s.nv.slots.write i v, write := some (.save, .odometer s.mt.odometer) } }) ∧
      ∀ again rest e more, s.ss.persist = ⟨i, true, again⟩ :: rest →
        rest ++ (if again then [⟨i, false, false⟩] else []) = e :: more →
        exec (.pendingRestartWriteDone sample) s =
          .next { s with
            ss := { s.ss with persist := { e with inTransfer := true } :: more }
            nv := { s.nv with
              slots := s.nv.slots.write i v, write := some (.save, .slot e.index (setting s e.index)) } }) ∧
    (∀ sample : Raw, (∀ job, s.nv.write ≠ some (.pending, job)) →
      exec (.pendingRestartWriteDone sample) s = .next s) ∧
    (∀ i v j, s.nv.write = some (.rewrite, .slot i v) → s.ps.stage = .idle → s.ps.pendingRestart = none →
      s.ss.rewrite = some i → i < j → hasSlot j = true → j < 512 → (∀ k, i < k → k < j → hasSlot k = false) →
      exec .rewriteWriteDone s =
        .next { s with
          ss := { s.ss with rewrite := some j }
          nv := { s.nv with
            slots := s.nv.slots.write i v, write := some (.rewrite, .slot j (settingDefault j)) } }) ∧
    (∀ v, s.nv.write = some (.rewrite, .slot 351 v) → s.ps.stage = .idle → s.ss.rewrite = some 351 →
      s.ss.persist = [] →
      exec .rewriteWriteDone s =
        .next { s with
          ss := { s.ss with rewrite := none, writeStop := true }
          ps := { s.ps with pendingRestart := some .defaults }
          nv := { s.nv with slots := s.nv.slots.write 351 v, write := some (.pending, .odometer s.mt.odometer) } }) ∧
    ((∀ job, s.nv.write ≠ some (.rewrite, job)) → exec .rewriteWriteDone s = .next s)

/-! ### Settings -/

/-- R167, R177 to R180, R182: a SET is decided by the first test that fails; one that passes is deferred or applied, and an
applied one changes its own index alone and takes its place in the Persist Queue. R9, R51, R56, R65, R69, R82, R83, R84,
R92, R95, R97, R155, R172: what the owner of the index does when the value applied is a new one. R156: on a service link
that is not IDLE a SET is owed a BUSY and does nothing else; that the command is the taking or the passing on of its frame is
the model's choice (assumption 7). These are its choices too: the STATUS to a dropped Driver is queued before the target is
cleared and before the MOMENTARY functions go OFF, which its content shows where it is sent at once (assumption 40), and a
new chuff source keeps the record of a pulse accepted since the previous gap end (assumption 46). Three points are its
readings. R69 takes an entry whose profile changes as inactive first, which under FADE makes a RUNNING generator
FADING_OUT, and R74 lets that generator run on under an entry that wins again, with no restart; R69's second consequence
has it restart, and the model follows that (assumption 33, DEDUCED). The ACK is built when the owner has acted, and so names
a new loco address (assumption 47, DEDUCED). After the order to switch the outputs off, a new Ts or Gh still forms the demand
and a new type MOTOR still sets the puff timer idle, while the duty stays 0 and the fan is not raised (R98; assumption 22,
DEDUCED). -/
def Obligations.SetDecides : Prop :=
  ∀ (s : State) (source : Source) (i v : Nat), s.phase = .running → s.ss.working.wf = true →
    Instr.wellFormed (.set source i v) = true →
    (source = .setupTool → s.service.link ≠ .idle →
      exec (.set source i v) s = .next { s with service := { s.service with busyOwed := some 0x09 } }) ∧
    ((source = .setupTool → s.service.link = .idle) →
    let taken : State :=
      match source with
      | .throttle n _ => hear n s
      | .setupTool => { s with service := { s.service with link := .inFlight } }
    let admitted : Prop :=
      match source with
      | .throttle n a => atDriverScope taken n a = true
      | .setupTool => True
    let refused := fun reason : Reason => exec (.set source i v) s = .next (answer source (.refused 0x09 reason) taken)
    let stored := clampSetting i v
    (¬ admitted → refused .notDriver) ∧
    (admitted → settingSpec i = none → refused .badSetting) ∧
    ∀ p, admitted → settingSpec i = some p →
      (p.cls = .fixed → refused .readOnly) ∧
      (p.cls ≠ .fixed → source ≠ .setupTool → p.cls ≠ .run → refused .classLocked) ∧
      (p.cls ≠ .fixed → source = .setupTool ∨ p.cls = .run →
        (s.ss.writeStop = true ∨ s.ss.rewrite ≠ none → refused .busy) ∧
        (s.ss.writeStop = false → s.ss.rewrite = none →
          let places := s.ss.persist.length + s.ss.deferred.length
          let waits := ∃ e ∈ s.ss.deferred, e.1 = i
          let holds := ∃ e ∈ s.ss.persist, e.index = i
          (p.cls = .motion → 0 < s.slu.r → waits →
            exec (.set source i v) s =
              .next (answer source (.ackSet i stored true)
                { taken with
                  ss := { s.ss with
                    deferred := s.ss.deferred.map fun e => if e.1 = i then (i, stored) else e } })) ∧
          (p.cls = .motion → 0 < s.slu.r → ¬ waits → s.ss.deferred.length < 8 → places < 16 →
            exec (.set source i v) s =
              .next (answer source (.ackSet i stored true)
                { taken with ss := { s.ss with deferred := s.ss.deferred ++ [(i, stored)] } })) ∧
          (p.cls = .motion → 0 < s.slu.r → ¬ waits → 8 ≤ s.ss.deferred.length ∨ 16 ≤ places → refused .busy) ∧
          (p.cls ≠ .motion ∨ s.slu.r = 0 → ¬ holds → 16 ≤ places → refused .busy) ∧
          (p.cls ≠ .motion ∨ s.slu.r = 0 → holds ∨ places < 16 →
            ∃ u, exec (.set source i v) s = .next (answer source (.ackSet i stored false) u) ∧
              setting u i = stored ∧ (∀ j, j ≠ i → setting u j = setting s j) ∧
              (∃ e ∈ u.ss.persist, e.index = i) ∧ u.ss.deferred = s.ss.deferred ∧ u.slu.r = s.slu.r ∧
              u.slu.f = s.slu.f ∧ u.slu.travel = s.slu.travel ∧ u.scan = s.scan ∧ u.ml = s.ml ∧ u.ps.power = s.ps.power ∧
              u.nv.slots = s.nv.slots ∧ u.nv.odometer = s.nv.odometer ∧ u.nv.record = s.nv.record ∧
              (
                let new := stored ≠ setting s i
                (i = 16 → u.mt = if new ∧ stored ≤ s.mt.pa then { s.mt with pa := 0 } else s.mt) ∧
                (i = 17 → u.mt = if new ∧ stored ≤ s.mt.chuff then { s.mt with chuff := 0 } else s.mt) ∧
                (i = 18 →
                  u.mt =
                    if new then
                      { s.mt with
                        source := if stored = 1 then .sensor else .synth, pa := 0, fallback := false, silent := 0 }
                    else s.mt) ∧
                (i ≠ 16 → i ≠ 17 → i ≠ 18 → u.mt = s.mt)) ∧
              (
                let new := stored ≠ setting s i
                let silenced := fun n : Fin 32 => decide (i = 96 + n.val ∧ new ∧ stored % 2 = 1 ∧
                  (driverEntry taken = none ∨ driverLost taken = true))
                96 ≤ i → i ≤ 127 →
                  u.ct = { taken.ct with
                    functions := Vector.ofFn fun n : Fin 32 => s.ct.functions[n] && !silenced n }) ∧
              (
                let new := stored ≠ setting s i
                let due := ∃ n, s.slu.holdOff = some n ∧ stored ≤ n
                let granted : Slu := { s.slu with permit := .granted, holdOff := none }
                (i = 10 →
                  (new → due → u.slu = { granted with tEff := effectiveTarget { u with slu := granted } }) ∧
                  (¬ (new ∧ due) → u.slu = s.slu)) ∧
                (24 ≤ i → i ≤ 31 →
                  u.fe = if new then litFe (decide (s.ps.power ≠ .normal ∧ s.ps.power ≠ .bridging)) u else s.fe) ∧
                (i = 32 ∨ i = 34 →
                  let demand : Nat :=
                    match s.sc.temp with
                    | some temp =>
                      if (s.sc.smoke = .preheat ∨ s.sc.smoke = .ready) ∧ temp < (setting u 32 : Int) then
                        min 255 (((setting u 32 : Int) - temp).toNat * setting u 34)
                      else 0
                    | none => 0
                  u.sc =
                    if new then
                      { s.sc with demand := demand, duty := if s.ps.outputsOff then 0 else min demand s.sc.cap }
                    else s.sc) ∧
                (i = 53 →
                  u.radio =
                    { taken.radio with
                      telemetry :=
                        if ¬ new then s.radio.telemetry
                        else if stored = 0 then none
                        else if s.radio.telemetry = none ∧ (driverEntry taken).isSome = true then some 0
                        else s.radio.telemetry })) ∧
              (
                let new := stored ≠ setting s i
                let level := min 255 (setting u 39 + s.mt.l * setting u 40 / 255)
                let motorFan := if s.sc.burst.isSome then 255 else level
                let ready := s.sc.smoke = .ready
                (i = 19 →
                  u.sc =
                    if ¬ new then s.sc
                    else if stored = 1 then
                      (if ready then
                        { s.sc with puff := none, fan := if s.ps.outputsOff then s.sc.fan else motorFan }
                       else s.sc)
                    else { s.sc with burst := none, fan := if ready then 0 else s.sc.fan }) ∧
                (i = 39 ∨ i = 40 →
                  u.sc =
                    if new ∧ setting s 19 = 1 ∧ ready ∧ s.ps.outputsOff = false then { s.sc with fan := motorFan }
                    else s.sc)) ∧
              (∀ k : Fin 8,
                let new := stored ≠ setting s i
                let g := s.fe.gens[k]
                let g' := u.fe.gens[k]
                let profile := fun d : Fin 24 => setting s (259 + 4 * d.val) % 8
                let restarts := fun d => g'.driving = some d ∧ g'.st = .running ∧ g'.run = 0 ∧ g'.fade = 0
                (∀ d, new → g.driving = some d → i = 176 + 6 * profile d →
                  (g.st = .running ∨ g.st = .done ∨ (g.st = .fadingOut ∧ stored ≠ 5) → restarts d) ∧
                  (g.st = .dark ∨ (g.st = .fadingOut ∧ stored = 5) → g' = { g with brightness := g'.brightness })) ∧
                (176 ≤ i → i ≤ 223 → (∀ d, g.driving = some d → i ≠ 176 + 6 * profile d) →
                  g' = { g with brightness := g'.brightness }) ∧
                ∀ d, MapCurrent s → g.driving = some d → s.fe.active[d] = true →
                  setting s (258 + 4 * d.val) = k.val + 1 →
                  (∀ e : Fin 24, e < d → s.fe.active[e] = true → setting s (258 + 4 * e.val) ≠ k.val + 1) →
                  i = 259 + 4 * d.val → stored % 8 ≠ setting s i % 8 → restarts d) ∧
              (
                let new := stored ≠ setting s i
                let demoted := taken.ct.entries.map fun x => if x.isDriver then { x with role := .watcher } else x
                let moves := fun scope : Scope => (i = 1 ∧ scope = .loco) ∨ (i = 2 ∧ scope = .consist)
                (∀ e scope lost, new → driverEntry taken = some e → e.role = .driver scope lost → moves scope →
                  u.ct.entries = demoted ∧
                  (∀ n : Fin 32, u.ct.functions[n] = (s.ct.functions[n] && !isMomentary s n.val)) ∧
                  u.radio =
                    { (queueReply e.id .status
                        { storeSetting i stored taken with ct := { taken.ct with entries := demoted } }).radio with
                      telemetry := none }) ∧
                (¬ new ∨ driverEntry taken = none ∨
                    (∀ e scope lost, driverEntry taken = some e → e.role = .driver scope lost → ¬ moves scope) →
                  u.ct.entries = taken.ct.entries ∧ (i ≠ 53 → u.radio = taken.radio) ∧
                  (i < 96 ∨ 127 < i → u.ct.functions = s.ct.functions)) ∧
                u.ct.target = (if new ∧ i = 2 ∧ stored = 0 then 0 else s.ct.target) ∧
                u.ct.requested = s.ct.requested ∧ u.ct.latch = s.ct.latch)))))

/-- R178, R183: the value stored lies in the range of its setting, and a value of the range is stored as it is; chuffs per
revolution (setting 17) take the largest of 2, 4, 6, 8 not above the value, or 2 where the value is below 2; 292 settings
are not FIXED. -/
def Obligations.StoredValueInRange : Prop :=
  (∀ i v : Nat, settingInRange i (clampSetting i v) = true) ∧
  (∀ (i v : Nat) (p : SettingSpec), settingSpec i = some p → i ≠ 17 → p.lo ≤ v → v ≤ p.hi → clampSetting i v = v) ∧
  (∀ (i v : Nat) (p : SettingSpec), settingSpec i = some p → i ≠ 17 → v < p.lo → clampSetting i v = p.lo) ∧
  (∀ (i v : Nat) (p : SettingSpec), settingSpec i = some p → i ≠ 17 → p.hi < v → clampSetting i v = p.hi) ∧
  (∀ v : Nat, clampSetting 17 v ∈ [2, 4, 6, 8] ∧ (v < 2 → clampSetting 17 v = 2) ∧ (2 ≤ v → clampSetting 17 v ≤ v) ∧
    ∀ c ∈ [2, 4, 6, 8], c ≤ v → c ≤ clampSetting 17 v) ∧
  ((List.range 512).filter hasSlot).length = 292

/-! ### Control -/

/-- R161, R162: a CLAIM is decided by the first situation that applies; a claimant that becomes the DRIVER displaces
the Driver, to whom a STATUS is queued, which names the new Driver even where its content is taken at once (assumption 42),
turns the MOMENTARY functions OFF, raises the cue CLAIMED and starts the telemetry timer; target, direction and Stop latch
are kept. The cue CLAIMED follows the cues of the functions that go OFF (the order of R162's steps, R175). -/
def Obligations.ClaimDecides : Prop :=
  ∀ (s : State) (sender address : Nat) (steal : Bool), s.phase = .running → 1 ≤ sender → sender ≤ 59 →
    address ≤ 65535 →
    let heard := hear sender s
    let scope : Scope := if address = setting s 1 then .loco else .consist
    let withEntries : List Entry → State := fun es => { heard with ct := { heard.ct with entries := es } }
    let demoted := heard.ct.entries.map fun x => if x.isDriver then { x with role := .watcher } else x
    let claimed : List Entry → List Entry := fun es =>
      es.map fun x => if x.id = sender then { x with role := .driver scope false } else x
    let timer := if setting s 53 = 0 then none else some 0
    (∀ e, driverEntry heard = some e → e.id = sender →
      exec (.claim sender address steal) s =
        .next (queueReply sender (.ack 0x01) (withEntries (claimed heard.ct.entries)))) ∧
    (∀ e held, driverEntry heard = some e → e.id ≠ sender → e.role = .driver held false →
      steal = false ∨ setting s 57 ≠ 1 →
      exec (.claim sender address steal) s = .next (queueReply sender (.refused 0x01 .driverHeld) heard)) ∧
    (driverEntry heard = none ∨
        (∃ e held, driverEntry heard = some e ∧ e.id ≠ sender ∧
          (e.role = .driver held true ∨ (steal = true ∧ setting s 57 = 1))) →
      ∃ u, exec (.claim sender address steal) s = .next (queueReply sender (.ack 0x01) u) ∧
        u.ct = { s.ct with entries := claimed demoted, functions := u.ct.functions } ∧
        (∀ n : Fin 32, u.ct.functions[n] = (s.ct.functions[n] && !isMomentary s n.val)) ∧
        (driverEntry heard = none → u.radio = { s.radio with telemetry := timer }) ∧
        (∀ e, driverEntry heard = some e →
          u.radio = { (queueReply e.id .status (withEntries (claimed demoted))).radio with telemetry := timer }) ∧
        u.se = (raiseCue .claimed none (momentaryOff (withEntries (claimed demoted)))).se ∧
        ((∀ n : Fin 32, s.ct.functions[n] = true → isMomentary s n.val = false) →
          u.se = (raiseCue .claimed none s).se) ∧
        u.slu.r = s.slu.r ∧ u.slu.f = s.slu.f ∧ u.slu.travel = s.slu.travel ∧
        u = { s with
          slu := u.slu, fe := u.fe, sc := u.sc, se := u.se, radio := u.radio, ct := u.ct, orderCount := u.orderCount })

/-- R163: a RELEASE of the DRIVER leaves no Driver, turns the MOMENTARY functions OFF, stops the telemetry timer and
takes the Release action; any other throttle's is refused. -/
def Obligations.ReleaseActs : Prop :=
  ∀ (s : State) (sender address : Nat), s.phase = .running → 1 ≤ sender → sender ≤ 59 → address ≤ 65535 →
    let heard := hear sender s
    ((∀ e, driverEntry heard = some e → e.id ≠ sender) →
      exec (.release sender address) s = .next (queueReply sender (.refused 0x02 .notDriver) heard)) ∧
    (∀ e, driverEntry heard = some e → e.id = sender →
      ∃ u, exec (.release sender address) s = .next (queueReply sender (.ack 0x02) u) ∧
        u.ct =
          { s.ct with
            entries := heard.ct.entries.map fun x => if x.id = sender then { x with role := .watcher } else x
            functions := u.ct.functions, target := if setting s 56 = 1 then 0 else s.ct.target } ∧
        (EntriesOk s.ct.entries → driverEntry u = none) ∧
        (∀ n : Fin 32, u.ct.functions[n] = (s.ct.functions[n] && !isMomentary s n.val)) ∧
        u.radio = { s.radio with telemetry := none } ∧ u.slu.r = s.slu.r ∧ u.slu.f = s.slu.f ∧
        u.slu.travel = s.slu.travel ∧
        u = { s with
          slu := u.slu, fe := u.fe, sc := u.sc, se := u.se, radio := u.radio, ct := u.ct, orderCount := u.orderCount })

/-- R41, R164, R165, R171: a DRIVE is refused by the first test that fails; an accepted one sets the direction in the
locomotive's own sense, with step 0 empties the Stop latch and clears the Motor Fault latch, and sets the target step. That
the loco address with a consist address set is refused IN_CONSIST to a Driver of scope CONSIST too, by the order of R164's
tests, is the model's choice (assumption 37), and so is that a turn in the gap finds a bridge that drove in DRIVE
(assumption 43). -/
def Obligations.DriveActs : Prop :=
  ∀ (s : State) (sender address stepNo : Nat) (d : Direction), s.phase = .running → 1 ≤ sender → sender ≤ 59 →
    address ≤ 65535 → stepNo ≤ 255 →
    let heard := hear sender s
    let refused := fun reason : Reason =>
      exec (.drive sender address stepNo d) s = .next (queueReply sender (.refused 0x03 reason) heard)
    ((∀ e, driverEntry heard = some e → e.id ≠ sender) → refused .notDriver) ∧
    (∀ e scope lost, driverEntry heard = some e → e.id = sender → e.role = .driver scope lost →
      (address = setting s 1 → setting s 2 ≠ 0 → refused .inConsist) ∧
      (¬ (address = setting s 1 ∧ setting s 2 ≠ 0) →
        address ≠ (match scope with | .loco => setting s 1 | .consist => setting s 2) → refused .notDriver) ∧
      (¬ (address = setting s 1 ∧ setting s 2 ≠ 0) →
        address = (match scope with | .loco => setting s 1 | .consist => setting s 2) →
        let asked : Direction :=
          if address = setting s 2 ∧ setting s 3 % 2 = 1 then (match d with | .fwd => .rev | .rev => .fwd) else d
        let clears := stepNo = 0 ∧ s.ml.fault = true
        ∃ u, exec (.drive sender address stepNo d) s = .next (queueReply sender (.ack 0x03) u) ∧
          u.ct =
            { heard.ct with
              requested := asked
              latch := if stepNo = 0 then StopLatch.empty else s.ct.latch
              target := if stepNo ≠ 0 ∧ s.ct.latch.held = true then 0 else min 112 stepNo } ∧
          u.slu.r = s.slu.r ∧ u.slu.f = s.slu.f ∧
          u.slu.travel = (if s.slu.r = 0 then asked else s.slu.travel) ∧
          u.ml.fault = (s.ml.fault && stepNo != 0) ∧
          (clears → u.ml.tripCounter = 0 ∧ u.ml.quiet = none ∧ u.ml.dcap = 512 ∧ u.ml.i16 = 0) ∧
          (¬ clears → u.ml.tripCounter = s.ml.tripCounter ∧ u.ml.quiet = s.ml.quiet ∧ u.ml.dcap = s.ml.dcap) ∧
          (s.slu.r ≠ 0 ∨ asked = s.slu.travel → u.ml.bridge = s.ml.bridge ∧ u.ml.d = s.ml.d) ∧
          (s.slu.r = 0 → asked ≠ s.slu.travel → s.ml.bridge = .drive → u.ml.bridge = .coast ∧ u.ml.d = 0) ∧
          u = { s with
            slu := u.slu, ml := u.ml, fe := u.fe, sc := u.sc, se := u.se, ct := u.ct, orderCount := u.orderCount }))

/-- R65, R66, R166: a FUNC at the Driver's scope address is acknowledged and acts by its action and the function's kind, at
the consist address only on a function that follows the consist; any other is refused; an address that is both is taken as
the loco address (assumption 41). R68 to R74, R80, R83: a changed function brings an evaluation of the map, and what that
makes of the SOUND entries and of each output. That an output going DARK takes the cleared record of R85, and that the
driving entry's Argument names the profile as it stands, is the model's reading (assumption 21). That an inverted STROBE or
DOUBLE begins at position H is the model's choice (assumption 32), and so is that an output without a winner fades on under
an entry active for another target (assumption 33). -/
def Obligations.FuncActs : Prop :=
  (∀ (s : State) (sender address : Nat) (n : Fin 32) (action : FuncAction), s.phase = .running → 1 ≤ sender →
    sender ≤ 59 → address ≤ 65535 →
    let heard := hear sender s
    let momentary := setting s (96 + n.val) % 2 = 1
    let state : Bool :=
      match action with
      | .set => true
      | .clear => false
      | .press => if momentary then true else !s.ct.functions[n]
      | .release => if momentary then false else s.ct.functions[n]
    let atScope := ∃ e scope lost, driverEntry heard = some e ∧ e.id = sender ∧ e.role = .driver scope lost ∧
      address = match scope with | .loco => setting s 1 | .consist => setting s 2
    (¬ atScope →
      exec (.func sender address n action) s = .next (queueReply sender (.refused 0x04 .notDriver) heard)) ∧
    (atScope →
      ∃ u, exec (.func sender address n action) s = .next (queueReply sender (.ack 0x04) u) ∧
        u.ct =
          { heard.ct with
            functions :=
              if address = setting s 1 ∨ 2 ≤ setting s (96 + n.val) then s.ct.functions.set n state
              else s.ct.functions } ∧
        u = (if u.ct.functions = s.ct.functions then heard
          else evaluateMap { heard with ct := { heard.ct with functions := u.ct.functions } }) ∧
        u.slu.r = s.slu.r ∧ u.slu.f = s.slu.f ∧ u.slu.travel = s.slu.travel ∧
        u = { s with
          slu := u.slu, fe := u.fe, sc := u.sc, se := u.se, ct := u.ct, orderCount := u.orderCount })) ∧
  ∀ s : State,
    let t := evaluateMap s
    let target := fun e : Fin 24 => setting s (258 + 4 * e.val)
    let argument := fun e : Fin 24 => setting s (259 + 4 * e.val)
    MapCurrent t ∧
    (t.fe.brake = s.fe.brake → t.fe.smokeEnable = s.fe.smokeEnable → t.fe.permitRequired = s.fe.permitRequired →
      t.fe.permitGranted = s.fe.permitGranted →
      t.se =
        { ((List.finRange 24).foldl
            (fun u e =>
              if target e = 9 ∧ s.fe.active[e] ≠ entryActive s e then
                if entryActive s e then raiseDirect (.map e) (argument e) u else releaseEntry e u
              else u) s).se with mute := t.fe.mute }) ∧
    ∀ k : Fin 8,
      let lights := fun e : Fin 24 => entryActive s e = true ∧ target e = k.val + 1
      let wins := fun e : Fin 24 => lights e ∧ ∀ d, d < e → ¬ lights d
      let dark := ∀ e, ¬ lights e
      let g := s.fe.gens[k]
      let g' := t.fe.gens[k]
      let runsOn := g'.driving = g.driving ∧ g'.q = g.q ∧ g'.run = g.run ∧ g'.fade = g.fade ∧ g'.countdown = g.countdown
      let restarts := fun e : Fin 24 =>
        let p := argument e % 8
        let w := setting s (176 + 6 * p)
        let high := setting s (179 + 6 * p)
        let period := max (if w = 1 then 1 else if w = 2 then 2 else 8) (high + setting s (180 + 6 * p))
        let q := if argument e / 8 % 2 = 1 ∧ 1 ≤ w ∧ w ≤ 3 ∧ high < period then high else 0
        let lit := w = 0 ∨ (w = 1 ∧ q < high) ∨ (w = 2 ∧ q < 2) ∨ (w = 3 ∧ (q = 0 ∨ q = 1 ∨ q = 6 ∨ q = 7))
        g'.driving = some e ∧ g'.st = .running ∧ g'.run = 0 ∧ g'.fade = 0 ∧ g'.q = q ∧
          g'.countdown = (if w = 4 then 2 else 0) ∧ (w = 5 → g'.value = 0) ∧
          (w ≤ 3 →
            g'.value =
              if lit then (if t.fe.dimmer then setting s (178 + 6 * p) else setting s (177 + 6 * p)) else 0)
      let taken := (dark → g' = Gen.off) ∧ ∀ e, wins e → restarts e
      (g.driving = none ∨ g.st = .dark → taken) ∧
      (∀ d, g.driving = some d → g.st = .running ∨ g.st = .done →
        (wins d → runsOn ∧ g'.st = g.st ∧ (t.fe.dimmer = s.fe.dimmer → g'.value = g.value)) ∧
        (¬ wins d →
          let fades := g.st = .running ∧ setting s (176 + 6 * (argument d % 8)) = 5 ∧ entryActive s d = false
          (fades → runsOn ∧ g'.st = .fadingOut ∧ g'.value = g.value) ∧ (¬ fades → taken))) ∧
      (∀ d, g.driving = some d → g.st = .fadingOut →
        (entryActive s d = false ∨ dark → runsOn ∧ g'.st = .fadingOut ∧ g'.value = g.value) ∧
        (entryActive s d = true → wins d → runsOn ∧ g'.st = .running ∧ g'.value = g.value) ∧
        ∀ e, entryActive s d = true → wins e → e ≠ d → restarts e) ∧
      g'.brightness =
        (if s.ps.outputsOff then 0
         else if s.ps.power = .normal ∨ s.ps.power = .bridging then g'.value else g'.value / 2)

/-- R15, R16, R18, R32, R146, R170, R171: the first cause of the Stop latch, whichever command brings it, stops the target,
R and the bridge, with the cue ESTOP, the rest of the Control Table untouched; a further cause joins the latch and touches
neither block, beside what an ESTOP frame's hearing and ACK and a break's abort do themselves; RESUME_ALL removes BASE_HALT
and LINK_BREAK, and T_eff follows. That a break aborts the partial frame and puts the spacing count at 22 is the model's
reading (assumption 13), and that the cue ESTOP comes last its choice (assumption 38), as is that a bridge that drove counts
as in DRIVE in the gap (assumption 43). That the ACK of an ESTOP joins after a STATUS that its stop brings through a deferred
address change is the model's reading (assumption 47). -/
def Obligations.StopCausesStop : Prop :=
  ∀ s : State, s.phase = .running →
    let bridge : BridgeState :=
      match s.ml.bridge with
      | .drive => if s.ml.fault || s.ps.outputsOff then .coast else .brake
      | .coast => if s.ml.fault || s.ps.outputsOff then .coast else .brake
      | .brake => .brake
      | .tripped => .tripped
    let stopped : State → State → StopLatch → Prop := fun base t latch =>
      (s.ss.deferred = [] →
        t = { base with
          slu := t.slu, ml := t.ml, fe := t.fe, sc := t.sc, se := t.se, orderCount := t.orderCount
          ct := { base.ct with latch := latch, target := 0 } }) ∧
      (s.ss.deferred = [] → (∀ e : Fin 24, setting s (258 + 4 * e.val) = 0) → MapCurrent s → s.se.mute = false →
        let rung := if 0 < s.slu.r then raiseCue .stopped none s else s
        t.se =
          (raiseCue .estop none
            (if s.ct.requested = s.slu.travel then rung else raiseCue .reversed none rung)).se) ∧
      t.ct.latch = latch ∧ t.ct.target = 0 ∧ t.slu.r = 0 ∧ t.slu.f = 0 ∧ t.slu.tEff = 0 ∧
        t.slu.travel = s.ct.requested ∧ t.ct.requested = s.ct.requested ∧ t.ml.bridge = bridge ∧
        (s.ml.bridge = .drive ∨ s.ml.bridge = .coast → t.ml.d = 0 ∧ t.ml.i16 = 0) ∧ t.ss.deferred = [] ∧
        t.ml.fault = s.ml.fault ∧ t.scan = s.scan ∧ t.ps.power = s.ps.power
    let held := s.ct.latch.throttleEstop = true ∨ s.ct.latch.baseHalt = true ∨ s.ct.latch.linkBreak = true ∨
      s.ct.latch.signalLoss = true
    let halt := { s.ct.latch with baseHalt := true }
    let estop := { s.ct.latch with throttleEstop := true }
    let broken := { s.ct.latch with linkBreak := true }
    let aborted := { s.radio with spacing := 22, rx := .hunting, partialFrame := [] }
    (¬ held → (s.slu.r = 0 → s.ss.deferred = []) →
      (∃ t, exec .haltAll s = .next t ∧ stopped s t halt) ∧
      (∀ n a, 1 ≤ n → n ≤ 59 → a ≤ 65535 →
        ∃ u, exec (.estop n a) s = .next (queueReply n (.ack 0x05) u) ∧
          stopped (hear n s) u estop) ∧
      (s.radio.spacing < 22 →
        ∃ t, exec .lineBreak s = .next t ∧ stopped { s with radio := aborted } t broken ∧ t.radio.spacing = 22 ∧ t.radio.partialFrame = [])) ∧
    (held →
      exec .haltAll s = .next { s with ct := { s.ct with latch := halt } } ∧
      (∀ n a, 1 ≤ n → n ≤ 59 → a ≤ 65535 →
        exec (.estop n a) s =
          .next (queueReply n (.ack 0x05)
            { s with ct := { s.ct with latch := estop, entries := (hear n s).ct.entries } })) ∧
      (s.radio.spacing < 22 →
        exec .lineBreak s = .next { s with radio := aborted, ct := { s.ct with latch := broken } })) ∧
    (22 ≤ s.radio.spacing → exec .lineBreak s = .next s) ∧
    (TargetCurrent s →
      let rest : State :=
        { s with ct := { s.ct with latch := { s.ct.latch with baseHalt := false, linkBreak := false } } }
      exec .resumeAll s = .next { rest with slu := { s.slu with tEff := effectiveTarget rest } })

/-- R172, R173, R174: a join or leave is refused by the first test that fails; one that passes puts the two consist
settings in force at once and queues them for persistence; a leave also sets the target step to 0; either drops a Driver of
scope CONSIST whose address it changes, with a STATUS, every MOMENTARY function OFF and the telemetry timer idle. That the
STATUS is queued before the target is cleared is the model's choice (assumption 40); that both settings are stored before
either owner acts, and that the STATUS joins before the ACK, is the model's reading (assumption 17). -/
def Obligations.ConsistChanges : Prop :=
  ∀ (s : State) (sender address : Nat), s.phase = .running → s.ss.working.wf = true → 1 ≤ sender → sender ≤ 59 →
    address ≤ 65535 →
    let heard := hear sender s
    let atScope := ∃ e scope lost, driverEntry heard = some e ∧ e.id = sender ∧ e.role = .driver scope lost ∧
      address = match scope with | .loco => setting s 1 | .consist => setting s 2
    let holds := fun (q : List PersistEntry) (i : Nat) => ∃ e ∈ q, e.index = i
    let full := s.ss.writeStop = true ∨ s.ss.rewrite ≠ none ∨
      (¬ holds s.ss.persist 2 ∧ 16 ≤ s.ss.persist.length + s.ss.deferred.length) ∨
      (¬ holds s.ss.persist 3 ∧ 16 ≤ s.ss.persist.length + s.ss.deferred.length) ∨
      (¬ holds s.ss.persist 2 ∧ ¬ holds s.ss.persist 3 ∧ 15 ≤ s.ss.persist.length + s.ss.deferred.length)
    let changed : State → Nat → Nat → Prop := fun u consist form =>
      setting u 2 = consist ∧ setting u 3 = form ∧ (∀ j, j ≠ 2 → j ≠ 3 → setting u j = setting s j) ∧
        holds u.ss.persist 2 ∧ holds u.ss.persist 3 ∧ u.slu.r = s.slu.r ∧ u.ct.requested = s.ct.requested ∧
        u.ct.latch = s.ct.latch ∧
        (
          let demoted := heard.ct.entries.map fun x => if x.isDriver then { x with role := .watcher } else x
          let dropped := driverScope heard = some .consist ∧ consist ≠ setting s 2
          (dropped →
            u.ct.entries = demoted ∧
            (∀ n : Fin 32, u.ct.functions[n] = (s.ct.functions[n] && !isMomentary s n.val)) ∧
            u.radio =
              { (queueReply sender .status
                  { storeSetting 3 form (storeSetting 2 consist heard) with
                    ct := { heard.ct with entries := demoted } }).radio with
                telemetry := none }) ∧
          (¬ dropped →
            u.ct.entries = heard.ct.entries ∧ u.ct.functions = s.ct.functions ∧ u.radio = s.radio))
    (∀ c o r, 1 ≤ c → c ≤ 9999 →
      let refused := fun reason : Reason =>
        exec (.consistJoin sender address c o r) s = .next (queueReply sender (.refused 0x07 reason) heard)
      (¬ atScope → refused .notDriver) ∧ (atScope → 0 < s.slu.r → refused .moving) ∧
      (atScope → s.slu.r = 0 → c = setting s 1 → refused .badSetting) ∧
      (atScope → s.slu.r = 0 → c ≠ setting s 1 → full → refused .busy) ∧
      (atScope → s.slu.r = 0 → c ≠ setting s 1 → ¬ full → s.ss.persist.length + s.ss.deferred.length ≤ 16 →
        ∃ u, exec (.consistJoin sender address c o r) s = .next (queueReply sender (.ack 0x07) u) ∧
          changed u c ((if o = .reversed then 1 else 0) + (if r = .trail then 2 else 0)) ∧
          u.ct.target = s.ct.target)) ∧
    (
      let refused := fun reason : Reason =>
        exec (.consistLeave sender address) s = .next (queueReply sender (.refused 0x08 reason) heard)
      (¬ atScope → refused .notDriver) ∧ (atScope → setting s 2 = 0 → refused .notInConsist) ∧
      (atScope → setting s 2 ≠ 0 → 0 < s.slu.r → refused .moving) ∧
      (atScope → setting s 2 ≠ 0 → s.slu.r = 0 → full → refused .busy) ∧
      (atScope → setting s 2 ≠ 0 → s.slu.r = 0 → ¬ full → s.ss.persist.length + s.ss.deferred.length ≤ 16 →
        ∃ u, exec (.consistLeave sender address) s = .next (queueReply sender (.ack 0x08) u) ∧ changed u 0 0 ∧
          u.ct.target = 0 ∧ driverScope u ≠ some .consist))

/-! ### Links -/

/-- R140, R141, R156, R157, R183: RESTART, DEFAULTS and IDENTIFY on an IDLE link are answered, and start what they ask
for; on a link that is not IDLE a BUSY is owed. That the command is the taking of its frame on an IDLE link, whatever the
decoder does, and its passing on, which owes the BUSY, on any other, is the model's choice (assumption 7). -/
def Obligations.ServiceRequests : Prop :=
  ∀ s : State, s.phase = .running →
    let replying : List Nat → Nat → Service := fun payload kind =>
      { s.service with link := .replying, reply := some ⟨kind, 63, setting s 1, 62 :: payload⟩ }
    (s.service.link = .idle →
      (s.ps.power = .down ∨ s.ps.pendingRestart ≠ none →
        exec .restart s = .next { s with service := replying [0x20, 8] 0x41 }) ∧
      (s.ps.power ≠ .down → s.ps.pendingRestart = none →
        ∃ t, exec .restart s = .next t ∧ t.service = replying [0x20] 0x40 ∧
          t.ps.pendingRestart = some .commanded ∧ t.ss.writeStop = true ∧ t.ss.deferred = [] ∧ t.ss.rewrite = none ∧
          (s.nv.write = none → s.ps.stage = .idle → s.ss.persist = [] →
            t.nv = { s.nv with write := some (.pending, .odometer s.mt.odometer) }) ∧
          (s.nv.write ≠ none → t.nv = s.nv) ∧
          t = { s with service := t.service, ps := t.ps, ss := t.ss, nv := t.nv }) ∧
      (s.ss.writeStop = true ∨ s.ss.rewrite ≠ none →
        exec .defaults s = .next { s with service := replying [0x21, 8] 0x41 }) ∧
      (s.ss.writeStop = false → s.ss.rewrite = none →
        ∃ t, exec .defaults s = .next t ∧ t.service = replying [0x21] 0x40 ∧
          t.ss = { s.ss with deferred := [], persist := [], rewrite := some 1 } ∧
          (s.nv.write = none → s.ps.stage = .idle → s.ps.pendingRestart = none →
            t.nv = { s.nv with write := some (.rewrite, .slot 1 3) }) ∧
          (s.nv.write ≠ none → t.nv = s.nv ∧ t.ps = s.ps) ∧
          t = { s with service := t.service, ps := t.ps, ss := t.ss, nv := t.nv }) ∧
      exec .identify s =
        .next { s with
          service := replying
            (0x22 :: ([480, 481, 482, 1, 504].flatMap fun i => [setting s i / 256 % 256, setting s i % 256]) ++
              [setting s 503]) 0x40 }) ∧
    (s.service.link ≠ .idle →
      exec .restart s = .next { s with service := { s.service with busyOwed := some 0x20 } } ∧
      exec .defaults s = .next { s with service := { s.service with busyOwed := some 0x21 } } ∧
      exec .identify s = .next { s with service := { s.service with busyOwed := some 0x22 } })

/-- R151, R159, R167, R177: a QUERY of a throttle is answered with a STATUS after the throttle is heard: its entry moves
to the most recent place with age 0 and no LOST mark, or a WATCHER is created, for which a full table gives up its least
recently heard one; a GET is answered with the working copy's value, or refused. R156: the setup tool is answered at once on
an IDLE link, and owed a BUSY on any other. That the command is the taking of its frame, or on a busy service link the
passing on, is the model's choice (assumption 7). -/
def Obligations.QueryAndGetAnswer : Prop :=
  ∀ s : State, s.phase = .running →
    (∀ n a, 1 ≤ n → n ≤ 59 → a ≤ 65535 →
      ∃ es, exec (.query (.throttle n a)) s =
          .next (queueReply n .status { s with ct := { s.ct with entries := es } }) ∧
        (∀ e, s.ct.entries.find? (fun x => x.id == n) = some e →
          es = s.ct.entries.filter (fun x => x.id != n) ++
            [{ e with age := 0, role := match e.role with | .driver scope _ => .driver scope false | .watcher => .watcher }]) ∧
        ((∀ e ∈ s.ct.entries, e.id ≠ n) → s.ct.entries.length < 4 → es = s.ct.entries ++ [⟨n, .watcher, 0⟩]) ∧
        ∀ before w after, s.ct.entries = before ++ w :: after → (∀ e ∈ s.ct.entries, e.id ≠ n) →
          4 ≤ s.ct.entries.length → (∀ e ∈ before, e.isDriver = true) → w.role = .watcher →
          es = before ++ after ++ [⟨n, .watcher, 0⟩]) ∧
    (s.service.link = .idle →
      exec (.query .setupTool) s =
        .next { s with
          radio := { s.radio with overrun := false }
          service := { s.service with
            link := .replying, reply := some ⟨0x42, 63, setting s 1, 62 :: statusContent s⟩ } }) ∧
    (s.service.link ≠ .idle →
      exec (.query .setupTool) s = .next { s with service := { s.service with busyOwed := some 0x06 } }) ∧
    ∀ i, i ≤ 65535 →
      (∀ n a, 1 ≤ n → n ≤ 59 → a ≤ 65535 →
        exec (.get (.throttle n a) i) s =
          .next (queueReply n
            (if atDriverScope (hear n s) n a then
              if (settingSpec i).isSome then .value i (setting s i) else .refused 0x0A .badSetting
            else .refused 0x0A .notDriver)
            (hear n s))) ∧
      (s.service.link = .idle →
        exec (.get .setupTool i) s =
          .next { s with
            service := { s.service with
              link := .replying
              reply := some
                (if (settingSpec i).isSome then
                  ⟨0x43, 63, setting s 1,
                    [62, i / 256 % 256, i % 256, setting s i / 256 % 256, setting s i % 256]⟩
                else ⟨0x41, 63, setting s 1, [62, 0x0A, 5]⟩) } }) ∧
      (s.service.link ≠ .idle →
        exec (.get .setupTool i) s = .next { s with service := { s.service with busyOwed := some 0x0A } })

/-- R150 to R152, R154, R156: a credit, and the end of a reply, let the transmitter begin the next reply of the queue with
one credit, whose content is taken at that moment; the service link sends an owed BUSY or becomes IDLE; the frames of the
replies, and the fourteen bytes of a STATUS. -/
def Obligations.RepliesAreSent : Prop :=
  ∀ s : State, s.phase = .running →
    (∀ n, n ≤ 255 → s.radio.sending ≠ none ∨ s.radio.replies = [] →
      exec (.credit n) s = .next { s with radio := { s.radio with credits := min 15 (s.radio.credits + n) } }) ∧
    (∀ n p rest, n ≤ 255 → 0 < s.radio.credits + n → s.radio.sending = none → s.radio.replies = p :: rest →
      exec (.credit n) s =
        .next { s with
          radio := { s.radio with
            credits := min 15 (s.radio.credits + n) - 1, replies := rest, sending := some (replyFrame s p.dest p.body)
            overrun := s.radio.overrun && decide (p.body ≠ .status) } }) ∧
    (s.radio.credits = 0 → exec (.credit 0) s = .next s) ∧
    (s.radio.sending = none → exec .replySent s = .next s) ∧
    (s.radio.sending ≠ none → s.radio.replies = [] ∨ s.radio.credits = 0 →
      exec .replySent s = .next { s with radio := { s.radio with sending := none } }) ∧
    (∀ p rest, s.radio.sending ≠ none → 0 < s.radio.credits → s.radio.replies = p :: rest →
      exec .replySent s =
        .next { s with
          radio := { s.radio with
            credits := s.radio.credits - 1, replies := rest, sending := some (replyFrame s p.dest p.body)
            overrun := s.radio.overrun && decide (p.body ≠ .status) } }) ∧
    (s.service.reply = none → exec .serviceReplySent s = .next s) ∧
    (s.service.reply ≠ none → s.service.busyOwed = none →
      exec .serviceReplySent s = .next { s with service := { s.service with link := .idle, reply := none } }) ∧
    (∀ k, s.service.reply ≠ none → s.service.busyOwed = some k →
      exec .serviceReplySent s =
        .next { s with
          service := { s.service with
            link := .replying, busyOwed := none, reply := some ⟨0x41, 63, setting s 1, [62, k, 8]⟩ } }) ∧
    (∀ d k, replyFrame s d (.ack k) = ⟨0x40, 63, setting s 1, [d, k]⟩) ∧
    (∀ d k r, replyFrame s d (.refused k r) = ⟨0x41, 63, setting s 1, [d, k, r.code]⟩) ∧
    (∀ d i v, replyFrame s d (.value i v) =
      ⟨0x43, 63, setting s 1, [d, i / 256 % 256, i % 256, v / 256 % 256, v % 256]⟩) ∧
    (∀ d i v deferred, replyFrame s d (.ackSet i v deferred) =
      ⟨0x40, 63, setting s 1,
        [d, 0x09, i / 256 % 256, i % 256, v / 256 % 256, v % 256, if deferred then 1 else 0]⟩) ∧
    (∀ d, replyFrame s d .status = ⟨0x42, 63, setting s 1, d :: statusContent s⟩) ∧
    (
      let backward : Direction → Nat := fun d => match d with | .fwd => 0 | .rev => 1
      let high : Nat → Nat := fun w => w / 256 % 256
      let low : Nat → Nat := fun w => w % 256
      let power : Nat :=
        match s.ps.power with | .normal => 0 | .bridging => 1 | .dimmed => 2 | .coasting => 3 | .down => 4
      let driver := ((s.ct.entries.find? fun e => decide (e.role ≠ .watcher)).map (·.id)).getD 0
      let causes :=
        (if s.ct.latch.throttleEstop then 1 else 0) + (if s.ct.latch.baseHalt then 2 else 0) +
          (if s.ct.latch.linkBreak then 4 else 0) + (if s.ct.latch.signalLoss then 8 else 0)
      let conditions :=
        (if s.ml.fault then 1 else 0) + (if s.ml.bridge = .tripped ∨ 0 < s.ml.tripCounter then 2 else 0) +
          (if s.mt.fallback then 4 else 0) + (if s.sc.smoke = .dry then 8 else 0) +
          (if s.se.dir = .noProject then 16 else 0) + (if s.radio.overrun then 32 else 0) +
          (if s.ps.power ≠ .normal then 64 else 0)
      let smoke : Nat := match s.sc.smoke with | .off => 0 | .preheat => 1 | .ready => 2 | .shed => 3 | .dry => 4
      statusContent s =
        [s.ct.target, backward s.ct.requested + 2 * backward s.slu.travel, high s.slu.r, low s.slu.r, high s.ml.m,
          low s.ml.m, s.mt.l, power, driver, causes, conditions, high (setting s 2), low (setting s 2), smoke])

/-- R153: what a reply to a throttle does to the Reply Queue, while the transmitter cannot begin a sending; R154: where it
is IDLE and a credit is held, the head of the queue that the reply has joined is sent at once. -/
def Obligations.ReplyJoins : Prop :=
  (∀ (s : State) (dest : Nat) (body : ReplyBody), s.radio.sending = none → 0 < s.radio.credits →
    (s.radio.replies = [] →
      queueReply dest body s =
        { s with
          radio := { s.radio with
            credits := s.radio.credits - 1, sending := some (replyFrame s dest body)
            overrun := s.radio.overrun && decide (body ≠ .status) } }) ∧
    ∀ p rest, s.radio.replies = p :: rest → s.radio.replies.length < 8 →
      body ≠ .status ∨ (∀ x ∈ s.radio.replies, x.dest = dest → x.body ≠ .status) →
      queueReply dest body s =
        { s with
          radio := { s.radio with
            credits := s.radio.credits - 1, replies := rest ++ [⟨dest, body⟩]
            sending := some (replyFrame s p.dest p.body)
            overrun := s.radio.overrun && decide (p.body ≠ .status) } }) ∧
  ∀ (s : State) (dest : Nat) (body : ReplyBody), s.radio.sending ≠ none ∨ s.radio.credits = 0 →
    let joined := fun q : List Reply => queueReply dest body s = { s with radio := { s.radio with replies := q } }
    let q := s.radio.replies
    (body = .status → (∃ p ∈ q, p.dest = dest ∧ p.body = .status) → joined q) ∧
    (body = .status → (∀ p ∈ q, p.dest = dest → p.body ≠ .status) → q.length < 8 → joined (q ++ [⟨dest, body⟩])) ∧
    (body = .status → 8 ≤ q.length → joined q) ∧
    (body ≠ .status → q.length < 8 → joined (q ++ [⟨dest, body⟩])) ∧
    (body ≠ .status → 8 ≤ q.length → (∀ p ∈ q, p.body ≠ .status) → joined q) ∧
    ∀ before p after, body ≠ .status → 8 ≤ q.length → q = before ++ p :: after → p.body = .status →
      (∀ x ∈ before, x.body ≠ .status) → joined (before ++ after ++ [⟨dest, body⟩])
end

