-- ==== Sys2Proof/Laws/State.lean ====
section
/-! SUPPORT. What each updater of State does to each field: one lemma for each field and updater. -/

namespace Sys2Proof.Machine

variable (s : State)

section
variable (g : Slu → Slu)
@[simp] theorem State.modSlu_phase : (s.modSlu g).phase = s.phase := rfl
@[simp] theorem State.modSlu_slu : (s.modSlu g).slu = g s.slu := rfl
@[simp] theorem State.modSlu_ml : (s.modSlu g).ml = s.ml := rfl
@[simp] theorem State.modSlu_scan : (s.modSlu g).scan = s.scan := rfl
@[simp] theorem State.modSlu_mt : (s.modSlu g).mt = s.mt := rfl
@[simp] theorem State.modSlu_fe : (s.modSlu g).fe = s.fe := rfl
@[simp] theorem State.modSlu_sc : (s.modSlu g).sc = s.sc := rfl
@[simp] theorem State.modSlu_se : (s.modSlu g).se = s.se := rfl
@[simp] theorem State.modSlu_ps : (s.modSlu g).ps = s.ps := rfl
@[simp] theorem State.modSlu_radio : (s.modSlu g).radio = s.radio := rfl
@[simp] theorem State.modSlu_service : (s.modSlu g).service = s.service := rfl
@[simp] theorem State.modSlu_decoder : (s.modSlu g).decoder = s.decoder := rfl
@[simp] theorem State.modSlu_ct : (s.modSlu g).ct = s.ct := rfl
@[simp] theorem State.modSlu_ss : (s.modSlu g).ss = s.ss := rfl
@[simp] theorem State.modSlu_nv : (s.modSlu g).nv = s.nv := rfl
@[simp] theorem State.modSlu_orderCount : (s.modSlu g).orderCount = s.orderCount := rfl
@[simp] theorem State.modSlu_pending : (s.modSlu g).pending = s.pending := rfl
end

section
variable (g : Ml → Ml)
@[simp] theorem State.modMl_phase : (s.modMl g).phase = s.phase := rfl
@[simp] theorem State.modMl_slu : (s.modMl g).slu = s.slu := rfl
@[simp] theorem State.modMl_ml : (s.modMl g).ml = g s.ml := rfl
@[simp] theorem State.modMl_scan : (s.modMl g).scan = s.scan := rfl
@[simp] theorem State.modMl_mt : (s.modMl g).mt = s.mt := rfl
@[simp] theorem State.modMl_fe : (s.modMl g).fe = s.fe := rfl
@[simp] theorem State.modMl_sc : (s.modMl g).sc = s.sc := rfl
@[simp] theorem State.modMl_se : (s.modMl g).se = s.se := rfl
@[simp] theorem State.modMl_ps : (s.modMl g).ps = s.ps := rfl
@[simp] theorem State.modMl_radio : (s.modMl g).radio = s.radio := rfl
@[simp] theorem State.modMl_service : (s.modMl g).service = s.service := rfl
@[simp] theorem State.modMl_decoder : (s.modMl g).decoder = s.decoder := rfl
@[simp] theorem State.modMl_ct : (s.modMl g).ct = s.ct := rfl
@[simp] theorem State.modMl_ss : (s.modMl g).ss = s.ss := rfl
@[simp] theorem State.modMl_nv : (s.modMl g).nv = s.nv := rfl
@[simp] theorem State.modMl_orderCount : (s.modMl g).orderCount = s.orderCount := rfl
@[simp] theorem State.modMl_pending : (s.modMl g).pending = s.pending := rfl
end

section
variable (g : Scan → Scan)
@[simp] theorem State.modScan_phase : (s.modScan g).phase = s.phase := rfl
@[simp] theorem State.modScan_slu : (s.modScan g).slu = s.slu := rfl
@[simp] theorem State.modScan_ml : (s.modScan g).ml = s.ml := rfl
@[simp] theorem State.modScan_scan : (s.modScan g).scan = g s.scan := rfl
@[simp] theorem State.modScan_mt : (s.modScan g).mt = s.mt := rfl
@[simp] theorem State.modScan_fe : (s.modScan g).fe = s.fe := rfl
@[simp] theorem State.modScan_sc : (s.modScan g).sc = s.sc := rfl
@[simp] theorem State.modScan_se : (s.modScan g).se = s.se := rfl
@[simp] theorem State.modScan_ps : (s.modScan g).ps = s.ps := rfl
@[simp] theorem State.modScan_radio : (s.modScan g).radio = s.radio := rfl
@[simp] theorem State.modScan_service : (s.modScan g).service = s.service := rfl
@[simp] theorem State.modScan_decoder : (s.modScan g).decoder = s.decoder := rfl
@[simp] theorem State.modScan_ct : (s.modScan g).ct = s.ct := rfl
@[simp] theorem State.modScan_ss : (s.modScan g).ss = s.ss := rfl
@[simp] theorem State.modScan_nv : (s.modScan g).nv = s.nv := rfl
@[simp] theorem State.modScan_orderCount : (s.modScan g).orderCount = s.orderCount := rfl
@[simp] theorem State.modScan_pending : (s.modScan g).pending = s.pending := rfl
end

section
variable (g : Mt → Mt)
@[simp] theorem State.modMt_phase : (s.modMt g).phase = s.phase := rfl
@[simp] theorem State.modMt_slu : (s.modMt g).slu = s.slu := rfl
@[simp] theorem State.modMt_ml : (s.modMt g).ml = s.ml := rfl
@[simp] theorem State.modMt_scan : (s.modMt g).scan = s.scan := rfl
@[simp] theorem State.modMt_mt : (s.modMt g).mt = g s.mt := rfl
@[simp] theorem State.modMt_fe : (s.modMt g).fe = s.fe := rfl
@[simp] theorem State.modMt_sc : (s.modMt g).sc = s.sc := rfl
@[simp] theorem State.modMt_se : (s.modMt g).se = s.se := rfl
@[simp] theorem State.modMt_ps : (s.modMt g).ps = s.ps := rfl
@[simp] theorem State.modMt_radio : (s.modMt g).radio = s.radio := rfl
@[simp] theorem State.modMt_service : (s.modMt g).service = s.service := rfl
@[simp] theorem State.modMt_decoder : (s.modMt g).decoder = s.decoder := rfl
@[simp] theorem State.modMt_ct : (s.modMt g).ct = s.ct := rfl
@[simp] theorem State.modMt_ss : (s.modMt g).ss = s.ss := rfl
@[simp] theorem State.modMt_nv : (s.modMt g).nv = s.nv := rfl
@[simp] theorem State.modMt_orderCount : (s.modMt g).orderCount = s.orderCount := rfl
@[simp] theorem State.modMt_pending : (s.modMt g).pending = s.pending := rfl
end

section
variable (g : Fe → Fe)
@[simp] theorem State.modFe_phase : (s.modFe g).phase = s.phase := rfl
@[simp] theorem State.modFe_slu : (s.modFe g).slu = s.slu := rfl
@[simp] theorem State.modFe_ml : (s.modFe g).ml = s.ml := rfl
@[simp] theorem State.modFe_scan : (s.modFe g).scan = s.scan := rfl
@[simp] theorem State.modFe_mt : (s.modFe g).mt = s.mt := rfl
@[simp] theorem State.modFe_fe : (s.modFe g).fe = g s.fe := rfl
@[simp] theorem State.modFe_sc : (s.modFe g).sc = s.sc := rfl
@[simp] theorem State.modFe_se : (s.modFe g).se = s.se := rfl
@[simp] theorem State.modFe_ps : (s.modFe g).ps = s.ps := rfl
@[simp] theorem State.modFe_radio : (s.modFe g).radio = s.radio := rfl
@[simp] theorem State.modFe_service : (s.modFe g).service = s.service := rfl
@[simp] theorem State.modFe_decoder : (s.modFe g).decoder = s.decoder := rfl
@[simp] theorem State.modFe_ct : (s.modFe g).ct = s.ct := rfl
@[simp] theorem State.modFe_ss : (s.modFe g).ss = s.ss := rfl
@[simp] theorem State.modFe_nv : (s.modFe g).nv = s.nv := rfl
@[simp] theorem State.modFe_orderCount : (s.modFe g).orderCount = s.orderCount := rfl
@[simp] theorem State.modFe_pending : (s.modFe g).pending = s.pending := rfl
end

section
variable (g : Sc → Sc)
@[simp] theorem State.modSc_phase : (s.modSc g).phase = s.phase := rfl
@[simp] theorem State.modSc_slu : (s.modSc g).slu = s.slu := rfl
@[simp] theorem State.modSc_ml : (s.modSc g).ml = s.ml := rfl
@[simp] theorem State.modSc_scan : (s.modSc g).scan = s.scan := rfl
@[simp] theorem State.modSc_mt : (s.modSc g).mt = s.mt := rfl
@[simp] theorem State.modSc_fe : (s.modSc g).fe = s.fe := rfl
@[simp] theorem State.modSc_sc : (s.modSc g).sc = g s.sc := rfl
@[simp] theorem State.modSc_se : (s.modSc g).se = s.se := rfl
@[simp] theorem State.modSc_ps : (s.modSc g).ps = s.ps := rfl
@[simp] theorem State.modSc_radio : (s.modSc g).radio = s.radio := rfl
@[simp] theorem State.modSc_service : (s.modSc g).service = s.service := rfl
@[simp] theorem State.modSc_decoder : (s.modSc g).decoder = s.decoder := rfl
@[simp] theorem State.modSc_ct : (s.modSc g).ct = s.ct := rfl
@[simp] theorem State.modSc_ss : (s.modSc g).ss = s.ss := rfl
@[simp] theorem State.modSc_nv : (s.modSc g).nv = s.nv := rfl
@[simp] theorem State.modSc_orderCount : (s.modSc g).orderCount = s.orderCount := rfl
@[simp] theorem State.modSc_pending : (s.modSc g).pending = s.pending := rfl
end

section
variable (g : Se → Se)
@[simp] theorem State.modSe_phase : (s.modSe g).phase = s.phase := rfl
@[simp] theorem State.modSe_slu : (s.modSe g).slu = s.slu := rfl
@[simp] theorem State.modSe_ml : (s.modSe g).ml = s.ml := rfl
@[simp] theorem State.modSe_scan : (s.modSe g).scan = s.scan := rfl
@[simp] theorem State.modSe_mt : (s.modSe g).mt = s.mt := rfl
@[simp] theorem State.modSe_fe : (s.modSe g).fe = s.fe := rfl
@[simp] theorem State.modSe_sc : (s.modSe g).sc = s.sc := rfl
@[simp] theorem State.modSe_se : (s.modSe g).se = g s.se := rfl
@[simp] theorem State.modSe_ps : (s.modSe g).ps = s.ps := rfl
@[simp] theorem State.modSe_radio : (s.modSe g).radio = s.radio := rfl
@[simp] theorem State.modSe_service : (s.modSe g).service = s.service := rfl
@[simp] theorem State.modSe_decoder : (s.modSe g).decoder = s.decoder := rfl
@[simp] theorem State.modSe_ct : (s.modSe g).ct = s.ct := rfl
@[simp] theorem State.modSe_ss : (s.modSe g).ss = s.ss := rfl
@[simp] theorem State.modSe_nv : (s.modSe g).nv = s.nv := rfl
@[simp] theorem State.modSe_orderCount : (s.modSe g).orderCount = s.orderCount := rfl
@[simp] theorem State.modSe_pending : (s.modSe g).pending = s.pending := rfl
end

section
variable (g : Ps → Ps)
@[simp] theorem State.modPs_phase : (s.modPs g).phase = s.phase := rfl
@[simp] theorem State.modPs_slu : (s.modPs g).slu = s.slu := rfl
@[simp] theorem State.modPs_ml : (s.modPs g).ml = s.ml := rfl
@[simp] theorem State.modPs_scan : (s.modPs g).scan = s.scan := rfl
@[simp] theorem State.modPs_mt : (s.modPs g).mt = s.mt := rfl
@[simp] theorem State.modPs_fe : (s.modPs g).fe = s.fe := rfl
@[simp] theorem State.modPs_sc : (s.modPs g).sc = s.sc := rfl
@[simp] theorem State.modPs_se : (s.modPs g).se = s.se := rfl
@[simp] theorem State.modPs_ps : (s.modPs g).ps = g s.ps := rfl
@[simp] theorem State.modPs_radio : (s.modPs g).radio = s.radio := rfl
@[simp] theorem State.modPs_service : (s.modPs g).service = s.service := rfl
@[simp] theorem State.modPs_decoder : (s.modPs g).decoder = s.decoder := rfl
@[simp] theorem State.modPs_ct : (s.modPs g).ct = s.ct := rfl
@[simp] theorem State.modPs_ss : (s.modPs g).ss = s.ss := rfl
@[simp] theorem State.modPs_nv : (s.modPs g).nv = s.nv := rfl
@[simp] theorem State.modPs_orderCount : (s.modPs g).orderCount = s.orderCount := rfl
@[simp] theorem State.modPs_pending : (s.modPs g).pending = s.pending := rfl
end

section
variable (g : Radio → Radio)
@[simp] theorem State.modRadio_phase : (s.modRadio g).phase = s.phase := rfl
@[simp] theorem State.modRadio_slu : (s.modRadio g).slu = s.slu := rfl
@[simp] theorem State.modRadio_ml : (s.modRadio g).ml = s.ml := rfl
@[simp] theorem State.modRadio_scan : (s.modRadio g).scan = s.scan := rfl
@[simp] theorem State.modRadio_mt : (s.modRadio g).mt = s.mt := rfl
@[simp] theorem State.modRadio_fe : (s.modRadio g).fe = s.fe := rfl
@[simp] theorem State.modRadio_sc : (s.modRadio g).sc = s.sc := rfl
@[simp] theorem State.modRadio_se : (s.modRadio g).se = s.se := rfl
@[simp] theorem State.modRadio_ps : (s.modRadio g).ps = s.ps := rfl
@[simp] theorem State.modRadio_radio : (s.modRadio g).radio = g s.radio := rfl
@[simp] theorem State.modRadio_service : (s.modRadio g).service = s.service := rfl
@[simp] theorem State.modRadio_decoder : (s.modRadio g).decoder = s.decoder := rfl
@[simp] theorem State.modRadio_ct : (s.modRadio g).ct = s.ct := rfl
@[simp] theorem State.modRadio_ss : (s.modRadio g).ss = s.ss := rfl
@[simp] theorem State.modRadio_nv : (s.modRadio g).nv = s.nv := rfl
@[simp] theorem State.modRadio_orderCount : (s.modRadio g).orderCount = s.orderCount := rfl
@[simp] theorem State.modRadio_pending : (s.modRadio g).pending = s.pending := rfl
end

section
variable (g : Service → Service)
@[simp] theorem State.modService_phase : (s.modService g).phase = s.phase := rfl
@[simp] theorem State.modService_slu : (s.modService g).slu = s.slu := rfl
@[simp] theorem State.modService_ml : (s.modService g).ml = s.ml := rfl
@[simp] theorem State.modService_scan : (s.modService g).scan = s.scan := rfl
@[simp] theorem State.modService_mt : (s.modService g).mt = s.mt := rfl
@[simp] theorem State.modService_fe : (s.modService g).fe = s.fe := rfl
@[simp] theorem State.modService_sc : (s.modService g).sc = s.sc := rfl
@[simp] theorem State.modService_se : (s.modService g).se = s.se := rfl
@[simp] theorem State.modService_ps : (s.modService g).ps = s.ps := rfl
@[simp] theorem State.modService_radio : (s.modService g).radio = s.radio := rfl
@[simp] theorem State.modService_service : (s.modService g).service = g s.service := rfl
@[simp] theorem State.modService_decoder : (s.modService g).decoder = s.decoder := rfl
@[simp] theorem State.modService_ct : (s.modService g).ct = s.ct := rfl
@[simp] theorem State.modService_ss : (s.modService g).ss = s.ss := rfl
@[simp] theorem State.modService_nv : (s.modService g).nv = s.nv := rfl
@[simp] theorem State.modService_orderCount : (s.modService g).orderCount = s.orderCount := rfl
@[simp] theorem State.modService_pending : (s.modService g).pending = s.pending := rfl
end

section
variable (g : Decoder → Decoder)
@[simp] theorem State.modDecoder_phase : (s.modDecoder g).phase = s.phase := rfl
@[simp] theorem State.modDecoder_slu : (s.modDecoder g).slu = s.slu := rfl
@[simp] theorem State.modDecoder_ml : (s.modDecoder g).ml = s.ml := rfl
@[simp] theorem State.modDecoder_scan : (s.modDecoder g).scan = s.scan := rfl
@[simp] theorem State.modDecoder_mt : (s.modDecoder g).mt = s.mt := rfl
@[simp] theorem State.modDecoder_fe : (s.modDecoder g).fe = s.fe := rfl
@[simp] theorem State.modDecoder_sc : (s.modDecoder g).sc = s.sc := rfl
@[simp] theorem State.modDecoder_se : (s.modDecoder g).se = s.se := rfl
@[simp] theorem State.modDecoder_ps : (s.modDecoder g).ps = s.ps := rfl
@[simp] theorem State.modDecoder_radio : (s.modDecoder g).radio = s.radio := rfl
@[simp] theorem State.modDecoder_service : (s.modDecoder g).service = s.service := rfl
@[simp] theorem State.modDecoder_decoder : (s.modDecoder g).decoder = g s.decoder := rfl
@[simp] theorem State.modDecoder_ct : (s.modDecoder g).ct = s.ct := rfl
@[simp] theorem State.modDecoder_ss : (s.modDecoder g).ss = s.ss := rfl
@[simp] theorem State.modDecoder_nv : (s.modDecoder g).nv = s.nv := rfl
@[simp] theorem State.modDecoder_orderCount : (s.modDecoder g).orderCount = s.orderCount := rfl
@[simp] theorem State.modDecoder_pending : (s.modDecoder g).pending = s.pending := rfl
end

section
variable (g : Ct → Ct)
@[simp] theorem State.modCt_phase : (s.modCt g).phase = s.phase := rfl
@[simp] theorem State.modCt_slu : (s.modCt g).slu = s.slu := rfl
@[simp] theorem State.modCt_ml : (s.modCt g).ml = s.ml := rfl
@[simp] theorem State.modCt_scan : (s.modCt g).scan = s.scan := rfl
@[simp] theorem State.modCt_mt : (s.modCt g).mt = s.mt := rfl
@[simp] theorem State.modCt_fe : (s.modCt g).fe = s.fe := rfl
@[simp] theorem State.modCt_sc : (s.modCt g).sc = s.sc := rfl
@[simp] theorem State.modCt_se : (s.modCt g).se = s.se := rfl
@[simp] theorem State.modCt_ps : (s.modCt g).ps = s.ps := rfl
@[simp] theorem State.modCt_radio : (s.modCt g).radio = s.radio := rfl
@[simp] theorem State.modCt_service : (s.modCt g).service = s.service := rfl
@[simp] theorem State.modCt_decoder : (s.modCt g).decoder = s.decoder := rfl
@[simp] theorem State.modCt_ct : (s.modCt g).ct = g s.ct := rfl
@[simp] theorem State.modCt_ss : (s.modCt g).ss = s.ss := rfl
@[simp] theorem State.modCt_nv : (s.modCt g).nv = s.nv := rfl
@[simp] theorem State.modCt_orderCount : (s.modCt g).orderCount = s.orderCount := rfl
@[simp] theorem State.modCt_pending : (s.modCt g).pending = s.pending := rfl
end

section
variable (g : Ss → Ss)
@[simp] theorem State.modSs_phase : (s.modSs g).phase = s.phase := rfl
@[simp] theorem State.modSs_slu : (s.modSs g).slu = s.slu := rfl
@[simp] theorem State.modSs_ml : (s.modSs g).ml = s.ml := rfl
@[simp] theorem State.modSs_scan : (s.modSs g).scan = s.scan := rfl
@[simp] theorem State.modSs_mt : (s.modSs g).mt = s.mt := rfl
@[simp] theorem State.modSs_fe : (s.modSs g).fe = s.fe := rfl
@[simp] theorem State.modSs_sc : (s.modSs g).sc = s.sc := rfl
@[simp] theorem State.modSs_se : (s.modSs g).se = s.se := rfl
@[simp] theorem State.modSs_ps : (s.modSs g).ps = s.ps := rfl
@[simp] theorem State.modSs_radio : (s.modSs g).radio = s.radio := rfl
@[simp] theorem State.modSs_service : (s.modSs g).service = s.service := rfl
@[simp] theorem State.modSs_decoder : (s.modSs g).decoder = s.decoder := rfl
@[simp] theorem State.modSs_ct : (s.modSs g).ct = s.ct := rfl
@[simp] theorem State.modSs_ss : (s.modSs g).ss = g s.ss := rfl
@[simp] theorem State.modSs_nv : (s.modSs g).nv = s.nv := rfl
@[simp] theorem State.modSs_orderCount : (s.modSs g).orderCount = s.orderCount := rfl
@[simp] theorem State.modSs_pending : (s.modSs g).pending = s.pending := rfl
end

section
variable (g : Nv → Nv)
@[simp] theorem State.modNv_phase : (s.modNv g).phase = s.phase := rfl
@[simp] theorem State.modNv_slu : (s.modNv g).slu = s.slu := rfl
@[simp] theorem State.modNv_ml : (s.modNv g).ml = s.ml := rfl
@[simp] theorem State.modNv_scan : (s.modNv g).scan = s.scan := rfl
@[simp] theorem State.modNv_mt : (s.modNv g).mt = s.mt := rfl
@[simp] theorem State.modNv_fe : (s.modNv g).fe = s.fe := rfl
@[simp] theorem State.modNv_sc : (s.modNv g).sc = s.sc := rfl
@[simp] theorem State.modNv_se : (s.modNv g).se = s.se := rfl
@[simp] theorem State.modNv_ps : (s.modNv g).ps = s.ps := rfl
@[simp] theorem State.modNv_radio : (s.modNv g).radio = s.radio := rfl
@[simp] theorem State.modNv_service : (s.modNv g).service = s.service := rfl
@[simp] theorem State.modNv_decoder : (s.modNv g).decoder = s.decoder := rfl
@[simp] theorem State.modNv_ct : (s.modNv g).ct = s.ct := rfl
@[simp] theorem State.modNv_ss : (s.modNv g).ss = s.ss := rfl
@[simp] theorem State.modNv_nv : (s.modNv g).nv = g s.nv := rfl
@[simp] theorem State.modNv_orderCount : (s.modNv g).orderCount = s.orderCount := rfl
@[simp] theorem State.modNv_pending : (s.modNv g).pending = s.pending := rfl
end

end Sys2Proof.Machine
end

