-- ==== Sys2Proof/Laws/Orders.lean ====
section
/-! SUPPORT. The orders that the manual leaves open: what anyOrder can answer, and that it keeps whatever each of its
notices keeps. -/

namespace Sys2Proof.Machine

theorem insertions_perm {α : Type} (x : α) : ∀ (l p : List α), p ∈ insertions x l → p.Perm (x :: l)
  | [], p, h => by simp [insertions] at h; subst h; exact List.Perm.refl _
  | y :: ys, p, h => by
    simp only [insertions, List.mem_cons, List.mem_map] at h
    obtain rfl | ⟨q, hq, rfl⟩ := h
    · exact List.Perm.refl _
    · exact ((insertions_perm x ys q hq).cons y).trans (List.Perm.swap x y ys)

theorem orders_perm {α : Type} : ∀ (l p : List α), p ∈ orders l → p.Perm l
  | [], p, h => by simp [orders] at h; subst h; exact List.Perm.refl _
  | x :: xs, p, h => by
    simp only [orders, List.mem_flatMap] at h
    obtain ⟨q, hq, hp⟩ := h
    exact (insertions_perm x q p hp).trans ((orders_perm xs q hq).cons x)

theorem insertions_ne_nil {α : Type} (x : α) (l : List α) : insertions x l ≠ [] := by
  cases l <;> simp [insertions]

theorem orders_ne_nil {α : Type} : ∀ l : List α, orders l ≠ []
  | [] => by simp [orders]
  | x :: xs => by
    obtain ⟨p, hp⟩ := List.exists_mem_of_ne_nil _ (orders_ne_nil xs)
    obtain ⟨q, hq⟩ := List.exists_mem_of_ne_nil _ (insertions_ne_nil x p)
    exact List.ne_nil_of_mem (List.mem_flatMap.mpr ⟨p, hp, hq⟩)

/-- What `anyOrder` can answer: the notices taken in some order, with or without one more free choice counted. -/
theorem anyOrder_cases (fs : List (State → State)) (s : State) :
    ∃ p : List (State → State), p.Perm fs ∧
      (anyOrder fs s = inOrder p s ∨
        anyOrder fs s = { inOrder p s with orderCount := (inOrder p s).orderCount + 1 }) := by
  unfold anyOrder
  split
  · next h => exact absurd (List.map_eq_nil_iff.mp h) (orders_ne_nil fs)
  · next r rs h =>
    have mem : ∀ x ∈ r :: rs, ∃ p : List (State → State), p.Perm fs ∧ inOrder p s = x := by
      intro x hx
      rw [← h] at hx
      obtain ⟨p, hp, e⟩ := List.mem_map.mp hx
      exact ⟨p, orders_perm fs p hp, e⟩
    split
    · obtain ⟨p, hp, e⟩ := mem r (List.mem_cons_self ..)
      exact ⟨p, hp, .inl e.symm⟩
    · have inside : ∀ k, (r :: rs).getD k r ∈ r :: rs := by
        intro k
        rw [List.getD_eq_getElem?_getD]
        cases e : (r :: rs)[k]? with
        | none => simp
        | some x => simpa using List.mem_of_getElem? e
      obtain ⟨p, hp, e⟩ := mem _ (inside (Config.noticeChoice s.orderCount % (rs.length + 1)))
      exact ⟨p, hp, .inr (by rw [← e])⟩

/-- `anyOrder` keeps what each of its notices keeps, where the count of free choices does not matter. -/
theorem anyOrder_keeps {P : State → Prop} {fs : List (State → State)} {s : State} (start : P s)
    (each : ∀ f ∈ fs, ∀ s, P s → P (f s)) (count : ∀ s n, P s → P { s with orderCount := n }) :
    P (anyOrder fs s) := by
  have run : ∀ (p : List (State → State)) (s : State), (∀ f ∈ p, f ∈ fs) → P s → P (inOrder p s) := by
    intro p
    induction p with
    | nil => intro s _ h; exact h
    | cons f p ih =>
      intro s sub h
      exact ih (f s) (fun g hg => sub g (List.mem_cons_of_mem _ hg)) (each f (sub f (List.mem_cons_self ..)) s h)
  obtain ⟨p, hp, e | e⟩ := anyOrder_cases fs s
  · rw [e]; exact run p s (fun f hf => hp.mem_iff.mp hf) start
  · rw [e]; exact count _ _ (run p s (fun f hf => hp.mem_iff.mp hf) start)

@[simp] theorem anyOrder_nil (s : State) : anyOrder [] s = s := by simp [anyOrder, orders, inOrder]

@[simp] theorem anyOrder_single (f : State → State) (s : State) : anyOrder [f] s = f s := by
  simp [anyOrder, orders, insertions, inOrder]

/-- Two notices that commute on a state are taken as if in the order listed. -/
theorem anyOrder_pair (f g : State → State) (s : State) (h : f (g s) = g (f s)) : anyOrder [f, g] s = g (f s) := by
  simp [anyOrder, orders, insertions, inOrder, h]

@[simp] theorem noticeIf_true (f : State → State) : noticeIf true f = [f] := rfl

@[simp] theorem noticeIf_false (f : State → State) : noticeIf false f = [] := rfl

theorem mem_noticeIf {c : Bool} {f g : State → State} : g ∈ noticeIf c f ↔ c = true ∧ g = f := by
  cases c <;> simp [noticeIf]

@[simp] theorem whileRunning_running {f : State → State} {s : State} (h : s.phase = .running) :
    whileRunning f s = f s := by simp [whileRunning, h]

theorem whileRunning_off {f : State → State} {s : State} (h : s.phase ≠ .running) : whileRunning f s = s := by
  unfold whileRunning; split <;> simp_all

end Sys2Proof.Machine
end

