-- ==== Sys2Proof/Laws/StoreLaws.lean ====
section
/-! SUPPORT. The sparse store: reading after writing, the canonical form, ranges, and the index table. -/

namespace Sys2Proof.Machine

/-! ### Reading and writing -/

theorem Store.read_cons (i v j : Nat) (w : Store) :
    Store.read ((i, v) :: w) j = if j = i then v else Store.read w j := by
  simp only [Store.read, List.lookup]
  by_cases h : j = i
  · simp [h]
  · simp [h, beq_eq_false_iff_ne.mpr h]

/-- Writing leaves every other index alone, whatever the store. -/
theorem Store.read_write_ne {w : Store} {i v j : Nat} (h : j ≠ i) : (Store.write w i v).read j = w.read j := by
  induction w with
  | nil =>
    unfold Store.write; split
    · rfl
    · rw [Store.read_cons, if_neg h]
  | cons e w ih =>
    obtain ⟨k, u⟩ := e
    unfold Store.write
    split
    · split
      · rfl
      · rw [Store.read_cons, if_neg h]
    · split
      · next hk =>
        subst hk
        split
        · rw [Store.read_cons, if_neg h]
        · rw [Store.read_cons, Store.read_cons, if_neg h, if_neg h]
      · rw [Store.read_cons, Store.read_cons, ih]

theorem Store.wf_cons {i v : Nat} {w : Store} (h : Store.wf ((i, v) :: w) = true) :
    v ≠ settingDefault i ∧ (∀ e ∈ w, i < e.1) ∧ Store.wf w = true := by
  simpa [Store.wf, and_assoc] using h

/-- An index below every listed one reads as its default. -/
theorem Store.read_below {w : Store} {i : Nat} (h : ∀ e ∈ w, i < e.1) : w.read i = settingDefault i := by
  induction w with
  | nil => rfl
  | cons e w ih =>
    have := h e (List.mem_cons_self ..)
    rw [Store.read_cons, if_neg (by omega)]
    exact ih fun e' he' => h e' (List.mem_cons_of_mem _ he')

/-- Reading back what was written. -/
theorem Store.read_write_same {w : Store} (h : w.wf = true) (i v : Nat) : (Store.write w i v).read i = v := by
  induction w with
  | nil =>
    unfold Store.write; split
    · next e => rw [e]; rfl
    · rw [Store.read_cons, if_pos rfl]
  | cons e w ih =>
    obtain ⟨k, u⟩ := e
    obtain ⟨-, below, hw⟩ := Store.wf_cons h
    unfold Store.write
    split
    · next lt =>
      split
      · next e =>
        rw [e]
        refine Store.read_below fun e' he' => ?_
        rcases List.mem_cons.mp he' with rfl | he'
        · exact lt
        · exact Nat.lt_trans lt (below e' he')
      · rw [Store.read_cons, if_pos rfl]
    · split
      · next hk =>
        subst hk
        split
        · next e => rw [e]; exact Store.read_below below
        · rw [Store.read_cons, if_pos rfl]
      · next hk => rw [Store.read_cons, if_neg hk]; exact ih hw

/-- Reading any index of a canonical store after a write. -/
theorem Store.read_write {w : Store} (h : w.wf = true) (i v j : Nat) :
    (Store.write w i v).read j = if j = i then v else w.read j := by
  split
  · next e => rw [e]; exact Store.read_write_same h i v
  · next e => exact Store.read_write_ne e

theorem Store.write_keys {w : Store} {i v k : Nat} (h : ∀ e ∈ w, k < e.1) (hi : k < i) :
    ∀ e ∈ Store.write w i v, k < e.1 := by
  induction w with
  | nil => unfold Store.write; split <;> simp [hi]
  | cons e w ih =>
    obtain ⟨j, u⟩ := e
    have hj : k < j := h (j, u) (List.mem_cons_self ..)
    have hw : ∀ e ∈ w, k < e.1 := fun e he => h e (List.mem_cons_of_mem _ he)
    unfold Store.write
    repeat' split
    all_goals intro e he
    · exact h e he
    · rcases List.mem_cons.mp he with rfl | he
      · exact hi
      · exact h e he
    · exact hw e he
    · rcases List.mem_cons.mp he with rfl | he
      · exact hi
      · exact hw e he
    · rcases List.mem_cons.mp he with rfl | he
      · exact hj
      · exact ih hw e he

/-- A write keeps the canonical form. -/
theorem Store.write_wf {w : Store} (h : w.wf = true) (i v : Nat) : (Store.write w i v).wf = true := by
  induction w with
  | nil => unfold Store.write; split <;> simp_all [Store.wf]
  | cons e w ih =>
    obtain ⟨k, u⟩ := e
    obtain ⟨hu, below, hw⟩ := Store.wf_cons h
    have mk : ∀ {i v : Nat} {w : Store}, v ≠ settingDefault i → (∀ e ∈ w, i < e.1) → w.wf = true →
        Store.wf ((i, v) :: w) = true := by
      intro i v w a b c; simp [Store.wf, a, c]; exact fun a b' hb => b (a, b') hb
    unfold Store.write
    split
    · next lt =>
      split
      · exact h
      · next hv =>
        refine mk hv (fun e he => ?_) h
        rcases List.mem_cons.mp he with rfl | he
        · exact lt
        · exact Nat.lt_trans lt (below e he)
    · next nlt =>
      split
      · next hk =>
        subst hk
        split
        · exact hw
        · next hv => exact mk hv below hw
      · next hk => exact mk hu (Store.write_keys below (by omega)) (ih hw)

/-! ### The index table -/

/-- The index space ends at 511: no index from 512 on is assigned. -/
theorem settingSpec_none {i : Nat} (h : 512 ≤ i) : settingSpec i = none := by
  unfold settingSpec fixedSpec
  repeat rw [if_neg (by omega)]

/-- Every row of the index table has its default within its range. -/
theorem settingSpec_ordered {i : Nat} {p : SettingSpec} (h : settingSpec i = some p) :
    p.lo ≤ p.dflt ∧ p.dflt ≤ p.hi := by
  have test : ∀ i : Fin 512, (match settingSpec i.val with
      | some p => decide (p.lo ≤ p.dflt ∧ p.dflt ≤ p.hi)
      | none => true) = true := by decide +kernel
  have bound : i < 512 := by
    refine Nat.lt_of_not_le fun big => ?_
    rw [settingSpec_none big] at h
    cases h
  have := test ⟨i, bound⟩
  rw [h] at this
  exact of_decide_eq_true this

theorem settingSpec_17 : settingSpec 17 = some ⟨2, 8, 4, .motion⟩ := by decide

/-- A clamped value lies in its setting's range (R178). -/
theorem clampSetting_inRange (i v : Nat) : settingInRange i (clampSetting i v) = true := by
  unfold settingInRange clampSetting
  cases h : settingSpec i with
  | none => simp
  | some p =>
    obtain ⟨lo, hi⟩ := settingSpec_ordered h
    by_cases h17 : i = 17
    · subst h17
      rw [settingSpec_17] at h
      cases h
      simp only [if_true]
      repeat' split
      all_goals decide
    · simp only [h17, if_false]
      have : p.lo ≤ clampNat v p.lo p.hi ∧ clampNat v p.lo p.hi ≤ p.hi := by
        unfold clampNat; repeat' split
        all_goals omega
      simp [this.1, this.2, h17]

/-- The default of every index lies in its range. -/
theorem settingDefault_inRange (i : Nat) : settingInRange i (settingDefault i) = true := by
  unfold settingInRange settingDefault
  cases h : settingSpec i with
  | none => simp
  | some p =>
    obtain ⟨lo, hi⟩ := settingSpec_ordered h
    by_cases h17 : i = 17
    · subst h17
      rw [settingSpec_17] at h
      cases h
      decide
    · simp [lo, hi, h17]

/-! ### The loaded working copy -/

theorem Store.load_keys {w : Store} {k : Nat} (h : ∀ e ∈ w, k < e.1) : ∀ e ∈ Store.load w, k < e.1 := by
  induction w with
  | nil => simp [Store.load]
  | cons e w ih =>
    obtain ⟨j, u⟩ := e
    have hw : ∀ e ∈ w, k < e.1 := fun e he => h e (List.mem_cons_of_mem _ he)
    unfold Store.load
    dsimp only
    split
    · exact ih hw
    · intro e he
      rcases List.mem_cons.mp he with rfl | he
      · exact h (j, u) (List.mem_cons_self ..)
      · exact ih hw e he

/-- The loaded working copy is canonical and every value lies in its range (R178, R185). -/
theorem Store.load_ok {w : Store} (h : w.wf = true) : WorkingOk (Store.load w) := by
  induction w with
  | nil => exact ⟨rfl, settingDefault_inRange⟩
  | cons e w ih =>
    obtain ⟨i, v⟩ := e
    obtain ⟨-, below, hw⟩ := Store.wf_cons h
    unfold Store.load
    dsimp only
    split
    · exact ih hw
    · next hv =>
      refine ⟨?_, fun j => ?_⟩
      · simp only [Store.wf, Bool.and_eq_true, List.all_eq_true, bne_iff_ne, ne_eq, decide_eq_true_eq]
        exact ⟨⟨hv, Store.load_keys below⟩, (ih hw).canonical⟩
      · rw [Store.read_cons]
        split
        · next e => rw [e]; exact clampSetting_inRange i v
        · exact (ih hw).inRange j

/-- Writing a value of its range keeps the working copy's promise (R178). -/
theorem WorkingOk.write {w : Store} (h : WorkingOk w) {i v : Nat} (hv : settingInRange i v = true) :
    WorkingOk (w.write i v) := by
  refine ⟨Store.write_wf h.canonical i v, fun j => ?_⟩
  rw [Store.read_write h.canonical]
  split
  · next e => rw [e]; exact hv
  · exact h.inRange j

end Sys2Proof.Machine
end

