-- ==== Sys2Proof/Laws/Lanes.lean ====
section
/-! SUPPORT. Lanes: which blocks the operations of a chapter leave unchanged. A lane relates a state to the state after
such an operation, one field for each block, or part of a block, that the operation cannot touch. -/

namespace Sys2Proof.Machine

/-- Nothing but the Sound Engine's state changes. -/
structure SoundLane (s t : State) : Prop where
  phase : t.phase = s.phase
  slu : t.slu = s.slu
  ml : t.ml = s.ml
  scan : t.scan = s.scan
  mt : t.mt = s.mt
  fe : t.fe = s.fe
  sc : t.sc = s.sc
  ps : t.ps = s.ps
  radio : t.radio = s.radio
  service : t.service = s.service
  decoder : t.decoder = s.decoder
  ct : t.ct = s.ct
  ss : t.ss = s.ss
  nv : t.nv = s.nv
  orderCount : t.orderCount = s.orderCount
  pending : t.pending = s.pending

theorem SoundLane.refl (s : State) : SoundLane s s := by constructor <;> rfl

theorem SoundLane.trans {s t u : State} (h : SoundLane s t) (k : SoundLane t u) : SoundLane s u :=
  ⟨k.phase.trans h.phase, k.slu.trans h.slu, k.ml.trans h.ml,
    k.scan.trans h.scan, k.mt.trans h.mt, k.fe.trans h.fe,
    k.sc.trans h.sc, k.ps.trans h.ps, k.radio.trans h.radio,
    k.service.trans h.service, k.decoder.trans h.decoder, k.ct.trans h.ct,
    k.ss.trans h.ss, k.nv.trans h.nv, k.orderCount.trans h.orderCount,
    k.pending.trans h.pending⟩

theorem SoundLane.modSe (s : State) (g : Se → Se) : SoundLane s (s.modSe g) := by
  constructor <;> rfl

theorem SoundLane.foldl {α : Type} {f : State → α → State} (h : ∀ s a, SoundLane s (f s a)) :
    ∀ (l : List α) (s : State), SoundLane s (l.foldl f s)
  | [], s => .refl s
  | a :: l, s => (h s a).trans (SoundLane.foldl h l (f s a))

/-- Nothing but the Smoke Controller's and, through SMOKE_DRY, the Sound Engine's state changes. -/
structure SmokeLane (s t : State) : Prop where
  phase : t.phase = s.phase
  slu : t.slu = s.slu
  ml : t.ml = s.ml
  scan : t.scan = s.scan
  mt : t.mt = s.mt
  fe : t.fe = s.fe
  ps : t.ps = s.ps
  radio : t.radio = s.radio
  service : t.service = s.service
  decoder : t.decoder = s.decoder
  ct : t.ct = s.ct
  ss : t.ss = s.ss
  nv : t.nv = s.nv
  orderCount : t.orderCount = s.orderCount
  pending : t.pending = s.pending

theorem SmokeLane.refl (s : State) : SmokeLane s s := by constructor <;> rfl

theorem SmokeLane.trans {s t u : State} (h : SmokeLane s t) (k : SmokeLane t u) : SmokeLane s u :=
  ⟨k.phase.trans h.phase, k.slu.trans h.slu, k.ml.trans h.ml,
    k.scan.trans h.scan, k.mt.trans h.mt, k.fe.trans h.fe,
    k.ps.trans h.ps, k.radio.trans h.radio, k.service.trans h.service,
    k.decoder.trans h.decoder, k.ct.trans h.ct, k.ss.trans h.ss,
    k.nv.trans h.nv, k.orderCount.trans h.orderCount, k.pending.trans h.pending⟩

theorem SmokeLane.modSc (s : State) (g : Sc → Sc) : SmokeLane s (s.modSc g) := by
  constructor <;> rfl

theorem SmokeLane.modSe (s : State) (g : Se → Se) : SmokeLane s (s.modSe g) := by
  constructor <;> rfl

theorem SmokeLane.foldl {α : Type} {f : State → α → State} (h : ∀ s a, SmokeLane s (f s a)) :
    ∀ (l : List α) (s : State), SmokeLane s (l.foldl f s)
  | [], s => .refl s
  | a :: l, s => (h s a).trans (SmokeLane.foldl h l (f s a))

/-- Nothing but the Radio Link Port's state changes. -/
structure RadioLane (s t : State) : Prop where
  phase : t.phase = s.phase
  slu : t.slu = s.slu
  ml : t.ml = s.ml
  scan : t.scan = s.scan
  mt : t.mt = s.mt
  fe : t.fe = s.fe
  sc : t.sc = s.sc
  se : t.se = s.se
  ps : t.ps = s.ps
  service : t.service = s.service
  decoder : t.decoder = s.decoder
  ct : t.ct = s.ct
  ss : t.ss = s.ss
  nv : t.nv = s.nv
  orderCount : t.orderCount = s.orderCount
  pending : t.pending = s.pending

theorem RadioLane.refl (s : State) : RadioLane s s := by constructor <;> rfl

theorem RadioLane.trans {s t u : State} (h : RadioLane s t) (k : RadioLane t u) : RadioLane s u :=
  ⟨k.phase.trans h.phase, k.slu.trans h.slu, k.ml.trans h.ml,
    k.scan.trans h.scan, k.mt.trans h.mt, k.fe.trans h.fe,
    k.sc.trans h.sc, k.se.trans h.se, k.ps.trans h.ps,
    k.service.trans h.service, k.decoder.trans h.decoder, k.ct.trans h.ct,
    k.ss.trans h.ss, k.nv.trans h.nv, k.orderCount.trans h.orderCount,
    k.pending.trans h.pending⟩

theorem RadioLane.modRadio (s : State) (g : Radio → Radio) : RadioLane s (s.modRadio g) := by
  constructor <;> rfl

theorem RadioLane.foldl {α : Type} {f : State → α → State} (h : ∀ s a, RadioLane s (f s a)) :
    ∀ (l : List α) (s : State), RadioLane s (l.foldl f s)
  | [], s => .refl s
  | a :: l, s => (h s a).trans (RadioLane.foldl h l (f s a))

/-- Nothing but the two link ports' state changes. -/
structure LinkLane (s t : State) : Prop where
  phase : t.phase = s.phase
  slu : t.slu = s.slu
  ml : t.ml = s.ml
  scan : t.scan = s.scan
  mt : t.mt = s.mt
  fe : t.fe = s.fe
  sc : t.sc = s.sc
  se : t.se = s.se
  ps : t.ps = s.ps
  decoder : t.decoder = s.decoder
  ct : t.ct = s.ct
  ss : t.ss = s.ss
  nv : t.nv = s.nv
  orderCount : t.orderCount = s.orderCount
  pending : t.pending = s.pending

theorem LinkLane.refl (s : State) : LinkLane s s := by constructor <;> rfl

theorem LinkLane.trans {s t u : State} (h : LinkLane s t) (k : LinkLane t u) : LinkLane s u :=
  ⟨k.phase.trans h.phase, k.slu.trans h.slu, k.ml.trans h.ml,
    k.scan.trans h.scan, k.mt.trans h.mt, k.fe.trans h.fe,
    k.sc.trans h.sc, k.se.trans h.se, k.ps.trans h.ps,
    k.decoder.trans h.decoder, k.ct.trans h.ct, k.ss.trans h.ss,
    k.nv.trans h.nv, k.orderCount.trans h.orderCount, k.pending.trans h.pending⟩

theorem LinkLane.modRadio (s : State) (g : Radio → Radio) : LinkLane s (s.modRadio g) := by
  constructor <;> rfl

theorem LinkLane.modService (s : State) (g : Service → Service) : LinkLane s (s.modService g) := by
  constructor <;> rfl

theorem LinkLane.foldl {α : Type} {f : State → α → State} (h : ∀ s a, LinkLane s (f s a)) :
    ∀ (l : List α) (s : State), LinkLane s (l.foldl f s)
  | [], s => .refl s
  | a :: l, s => (h s a).trans (LinkLane.foldl h l (f s a))

/-- Nothing but the save stage, the Settings Store's queues and the nonvolatile store changes. -/
structure WriteLane (s t : State) : Prop where
  phase : t.phase = s.phase
  slu : t.slu = s.slu
  ml : t.ml = s.ml
  scan : t.scan = s.scan
  mt : t.mt = s.mt
  fe : t.fe = s.fe
  sc : t.sc = s.sc
  se : t.se = s.se
  radio : t.radio = s.radio
  service : t.service = s.service
  decoder : t.decoder = s.decoder
  ct : t.ct = s.ct
  orderCount : t.orderCount = s.orderCount
  pending : t.pending = s.pending
  ps_power : t.ps.power = s.ps.power
  ps_lost : t.ps.lost = s.ps.lost
  ps_back : t.ps.back = s.ps.back
  ps_bridging : t.ps.bridging = s.ps.bridging
  ps_allowance : t.ps.allowance = s.ps.allowance
  ps_restartKind : t.ps.restartKind = s.ps.restartKind
  ps_outputsOff : t.ps.outputsOff = s.ps.outputsOff
  ss_working : t.ss.working = s.ss.working

theorem WriteLane.refl (s : State) : WriteLane s s := by constructor <;> rfl

theorem WriteLane.trans {s t u : State} (h : WriteLane s t) (k : WriteLane t u) : WriteLane s u :=
  ⟨k.phase.trans h.phase, k.slu.trans h.slu, k.ml.trans h.ml,
    k.scan.trans h.scan, k.mt.trans h.mt, k.fe.trans h.fe,
    k.sc.trans h.sc, k.se.trans h.se, k.radio.trans h.radio,
    k.service.trans h.service, k.decoder.trans h.decoder, k.ct.trans h.ct,
    k.orderCount.trans h.orderCount, k.pending.trans h.pending, k.ps_power.trans h.ps_power,
    k.ps_lost.trans h.ps_lost, k.ps_back.trans h.ps_back, k.ps_bridging.trans h.ps_bridging,
    k.ps_allowance.trans h.ps_allowance, k.ps_restartKind.trans h.ps_restartKind, k.ps_outputsOff.trans h.ps_outputsOff,
    k.ss_working.trans h.ss_working⟩

theorem WriteLane.modPs (s : State) (g : Ps → Ps)
    (h0 : ∀ b, (g b).power = b.power := by intro _; rfl)
    (h1 : ∀ b, (g b).lost = b.lost := by intro _; rfl)
    (h2 : ∀ b, (g b).back = b.back := by intro _; rfl)
    (h3 : ∀ b, (g b).bridging = b.bridging := by intro _; rfl)
    (h4 : ∀ b, (g b).allowance = b.allowance := by intro _; rfl)
    (h5 : ∀ b, (g b).restartKind = b.restartKind := by intro _; rfl)
    (h6 : ∀ b, (g b).outputsOff = b.outputsOff := by intro _; rfl) :
    WriteLane s (s.modPs g) :=
  ⟨rfl, rfl, rfl, rfl, rfl, rfl, rfl, rfl, rfl, rfl, rfl, rfl,
    rfl, rfl, h0 _, h1 _, h2 _, h3 _, h4 _, h5 _, h6 _, rfl⟩

theorem WriteLane.modSs (s : State) (g : Ss → Ss)
    (h0 : ∀ b, (g b).working = b.working := by intro _; rfl) :
    WriteLane s (s.modSs g) :=
  ⟨rfl, rfl, rfl, rfl, rfl, rfl, rfl, rfl, rfl, rfl, rfl, rfl,
    rfl, rfl, rfl, rfl, rfl, rfl, rfl, rfl, rfl, h0 _⟩

theorem WriteLane.modNv (s : State) (g : Nv → Nv) : WriteLane s (s.modNv g) := by
  constructor <;> rfl

theorem WriteLane.foldl {α : Type} {f : State → α → State} (h : ∀ s a, WriteLane s (f s a)) :
    ∀ (l : List α) (s : State), WriteLane s (l.foldl f s)
  | [], s => .refl s
  | a :: l, s => (h s a).trans (WriteLane.foldl h l (f s a))

/-- Nothing but the save stage, the Persist Queue and the write in transfer changes. -/
structure QueueLane (s t : State) : Prop where
  phase : t.phase = s.phase
  slu : t.slu = s.slu
  ml : t.ml = s.ml
  scan : t.scan = s.scan
  mt : t.mt = s.mt
  fe : t.fe = s.fe
  sc : t.sc = s.sc
  se : t.se = s.se
  radio : t.radio = s.radio
  service : t.service = s.service
  decoder : t.decoder = s.decoder
  ct : t.ct = s.ct
  orderCount : t.orderCount = s.orderCount
  pending : t.pending = s.pending
  ps_power : t.ps.power = s.ps.power
  ps_lost : t.ps.lost = s.ps.lost
  ps_back : t.ps.back = s.ps.back
  ps_bridging : t.ps.bridging = s.ps.bridging
  ps_allowance : t.ps.allowance = s.ps.allowance
  ps_restartKind : t.ps.restartKind = s.ps.restartKind
  ps_outputsOff : t.ps.outputsOff = s.ps.outputsOff
  ps_pendingRestart : t.ps.pendingRestart = s.ps.pendingRestart
  ss_working : t.ss.working = s.ss.working
  ss_deferred : t.ss.deferred = s.ss.deferred
  ss_writeStop : t.ss.writeStop = s.ss.writeStop
  ss_rewrite : t.ss.rewrite = s.ss.rewrite
  nv_slots : t.nv.slots = s.nv.slots
  nv_odometer : t.nv.odometer = s.nv.odometer
  nv_record : t.nv.record = s.nv.record
  nv_markPresent : t.nv.markPresent = s.nv.markPresent

theorem QueueLane.refl (s : State) : QueueLane s s := by constructor <;> rfl

theorem QueueLane.trans {s t u : State} (h : QueueLane s t) (k : QueueLane t u) : QueueLane s u :=
  ⟨k.phase.trans h.phase, k.slu.trans h.slu, k.ml.trans h.ml,
    k.scan.trans h.scan, k.mt.trans h.mt, k.fe.trans h.fe,
    k.sc.trans h.sc, k.se.trans h.se, k.radio.trans h.radio,
    k.service.trans h.service, k.decoder.trans h.decoder, k.ct.trans h.ct,
    k.orderCount.trans h.orderCount, k.pending.trans h.pending, k.ps_power.trans h.ps_power,
    k.ps_lost.trans h.ps_lost, k.ps_back.trans h.ps_back, k.ps_bridging.trans h.ps_bridging,
    k.ps_allowance.trans h.ps_allowance, k.ps_restartKind.trans h.ps_restartKind, k.ps_outputsOff.trans h.ps_outputsOff,
    k.ps_pendingRestart.trans h.ps_pendingRestart, k.ss_working.trans h.ss_working, k.ss_deferred.trans h.ss_deferred,
    k.ss_writeStop.trans h.ss_writeStop, k.ss_rewrite.trans h.ss_rewrite, k.nv_slots.trans h.nv_slots,
    k.nv_odometer.trans h.nv_odometer, k.nv_record.trans h.nv_record, k.nv_markPresent.trans h.nv_markPresent⟩

theorem QueueLane.modPs (s : State) (g : Ps → Ps)
    (h0 : ∀ b, (g b).power = b.power := by intro _; rfl)
    (h1 : ∀ b, (g b).lost = b.lost := by intro _; rfl)
    (h2 : ∀ b, (g b).back = b.back := by intro _; rfl)
    (h3 : ∀ b, (g b).bridging = b.bridging := by intro _; rfl)
    (h4 : ∀ b, (g b).allowance = b.allowance := by intro _; rfl)
    (h5 : ∀ b, (g b).restartKind = b.restartKind := by intro _; rfl)
    (h6 : ∀ b, (g b).outputsOff = b.outputsOff := by intro _; rfl)
    (h7 : ∀ b, (g b).pendingRestart = b.pendingRestart := by intro _; rfl) :
    QueueLane s (s.modPs g) :=
  ⟨rfl, rfl, rfl, rfl, rfl, rfl, rfl, rfl, rfl, rfl, rfl, rfl,
    rfl, rfl, h0 _, h1 _, h2 _, h3 _, h4 _, h5 _, h6 _, h7 _, rfl, rfl,
    rfl, rfl, rfl, rfl, rfl, rfl⟩

theorem QueueLane.modSs (s : State) (g : Ss → Ss)
    (h0 : ∀ b, (g b).working = b.working := by intro _; rfl)
    (h1 : ∀ b, (g b).deferred = b.deferred := by intro _; rfl)
    (h2 : ∀ b, (g b).writeStop = b.writeStop := by intro _; rfl)
    (h3 : ∀ b, (g b).rewrite = b.rewrite := by intro _; rfl) :
    QueueLane s (s.modSs g) :=
  ⟨rfl, rfl, rfl, rfl, rfl, rfl, rfl, rfl, rfl, rfl, rfl, rfl,
    rfl, rfl, rfl, rfl, rfl, rfl, rfl, rfl, rfl, rfl, h0 _, h1 _,
    h2 _, h3 _, rfl, rfl, rfl, rfl⟩

theorem QueueLane.modNv (s : State) (g : Nv → Nv)
    (h0 : ∀ b, (g b).slots = b.slots := by intro _; rfl)
    (h1 : ∀ b, (g b).odometer = b.odometer := by intro _; rfl)
    (h2 : ∀ b, (g b).record = b.record := by intro _; rfl)
    (h3 : ∀ b, (g b).markPresent = b.markPresent := by intro _; rfl) :
    QueueLane s (s.modNv g) :=
  ⟨rfl, rfl, rfl, rfl, rfl, rfl, rfl, rfl, rfl, rfl, rfl, rfl,
    rfl, rfl, rfl, rfl, rfl, rfl, rfl, rfl, rfl, rfl, rfl, rfl,
    rfl, rfl, h0 _, h1 _, h2 _, h3 _⟩

theorem QueueLane.foldl {α : Type} {f : State → α → State} (h : ∀ s a, QueueLane s (f s a)) :
    ∀ (l : List α) (s : State), QueueLane s (l.foldl f s)
  | [], s => .refl s
  | a :: l, s => (h s a).trans (QueueLane.foldl h l (f s a))

/-- Nothing but the light generators, the noise register and the light current estimate changes. -/
structure LightLane (s t : State) : Prop where
  phase : t.phase = s.phase
  slu : t.slu = s.slu
  ml : t.ml = s.ml
  scan : t.scan = s.scan
  mt : t.mt = s.mt
  sc : t.sc = s.sc
  se : t.se = s.se
  ps : t.ps = s.ps
  radio : t.radio = s.radio
  service : t.service = s.service
  decoder : t.decoder = s.decoder
  ct : t.ct = s.ct
  ss : t.ss = s.ss
  nv : t.nv = s.nv
  orderCount : t.orderCount = s.orderCount
  pending : t.pending = s.pending
  fe_active : t.fe.active = s.fe.active
  fe_shunt : t.fe.shunt = s.fe.shunt
  fe_brake : t.fe.brake = s.fe.brake
  fe_momentumOff : t.fe.momentumOff = s.fe.momentumOff
  fe_dimmer : t.fe.dimmer = s.fe.dimmer
  fe_mute : t.fe.mute = s.fe.mute
  fe_smokeEnable : t.fe.smokeEnable = s.fe.smokeEnable
  fe_permitRequired : t.fe.permitRequired = s.fe.permitRequired
  fe_permitGranted : t.fe.permitGranted = s.fe.permitGranted

theorem LightLane.refl (s : State) : LightLane s s := by constructor <;> rfl

theorem LightLane.trans {s t u : State} (h : LightLane s t) (k : LightLane t u) : LightLane s u :=
  ⟨k.phase.trans h.phase, k.slu.trans h.slu, k.ml.trans h.ml,
    k.scan.trans h.scan, k.mt.trans h.mt, k.sc.trans h.sc,
    k.se.trans h.se, k.ps.trans h.ps, k.radio.trans h.radio,
    k.service.trans h.service, k.decoder.trans h.decoder, k.ct.trans h.ct,
    k.ss.trans h.ss, k.nv.trans h.nv, k.orderCount.trans h.orderCount,
    k.pending.trans h.pending, k.fe_active.trans h.fe_active, k.fe_shunt.trans h.fe_shunt,
    k.fe_brake.trans h.fe_brake, k.fe_momentumOff.trans h.fe_momentumOff, k.fe_dimmer.trans h.fe_dimmer,
    k.fe_mute.trans h.fe_mute, k.fe_smokeEnable.trans h.fe_smokeEnable, k.fe_permitRequired.trans h.fe_permitRequired,
    k.fe_permitGranted.trans h.fe_permitGranted⟩

theorem LightLane.modFe (s : State) (g : Fe → Fe)
    (h0 : ∀ b, (g b).active = b.active := by intro _; rfl)
    (h1 : ∀ b, (g b).shunt = b.shunt := by intro _; rfl)
    (h2 : ∀ b, (g b).brake = b.brake := by intro _; rfl)
    (h3 : ∀ b, (g b).momentumOff = b.momentumOff := by intro _; rfl)
    (h4 : ∀ b, (g b).dimmer = b.dimmer := by intro _; rfl)
    (h5 : ∀ b, (g b).mute = b.mute := by intro _; rfl)
    (h6 : ∀ b, (g b).smokeEnable = b.smokeEnable := by intro _; rfl)
    (h7 : ∀ b, (g b).permitRequired = b.permitRequired := by intro _; rfl)
    (h8 : ∀ b, (g b).permitGranted = b.permitGranted := by intro _; rfl) :
    LightLane s (s.modFe g) :=
  ⟨rfl, rfl, rfl, rfl, rfl, rfl, rfl, rfl, rfl, rfl, rfl, rfl,
    rfl, rfl, rfl, rfl, h0 _, h1 _, h2 _, h3 _, h4 _, h5 _, h6 _, h7 _,
    h8 _⟩

theorem LightLane.foldl {α : Type} {f : State → α → State} (h : ∀ s a, LightLane s (f s a)) :
    ∀ (l : List α) (s : State), LightLane s (l.foldl f s)
  | [], s => .refl s
  | a :: l, s => (h s a).trans (LightLane.foldl h l (f s a))

/-- What a map evaluation can change: T_eff, the run permit, the lights, the smoke and the sound. -/
structure EffectLane (s t : State) : Prop where
  phase : t.phase = s.phase
  ml : t.ml = s.ml
  scan : t.scan = s.scan
  mt : t.mt = s.mt
  ps : t.ps = s.ps
  radio : t.radio = s.radio
  service : t.service = s.service
  decoder : t.decoder = s.decoder
  ct : t.ct = s.ct
  ss : t.ss = s.ss
  nv : t.nv = s.nv
  pending : t.pending = s.pending
  slu_r : t.slu.r = s.slu.r
  slu_f : t.slu.f = s.slu.f
  slu_travel : t.slu.travel = s.slu.travel

theorem EffectLane.refl (s : State) : EffectLane s s := by constructor <;> rfl

theorem EffectLane.trans {s t u : State} (h : EffectLane s t) (k : EffectLane t u) : EffectLane s u :=
  ⟨k.phase.trans h.phase, k.ml.trans h.ml, k.scan.trans h.scan,
    k.mt.trans h.mt, k.ps.trans h.ps, k.radio.trans h.radio,
    k.service.trans h.service, k.decoder.trans h.decoder, k.ct.trans h.ct,
    k.ss.trans h.ss, k.nv.trans h.nv, k.pending.trans h.pending,
    k.slu_r.trans h.slu_r, k.slu_f.trans h.slu_f, k.slu_travel.trans h.slu_travel⟩

theorem EffectLane.modSlu (s : State) (g : Slu → Slu)
    (h0 : ∀ b, (g b).r = b.r := by intro _; rfl)
    (h1 : ∀ b, (g b).f = b.f := by intro _; rfl)
    (h2 : ∀ b, (g b).travel = b.travel := by intro _; rfl) :
    EffectLane s (s.modSlu g) :=
  ⟨rfl, rfl, rfl, rfl, rfl, rfl, rfl, rfl, rfl, rfl, rfl, rfl,
    h0 _, h1 _, h2 _⟩

theorem EffectLane.modFe (s : State) (g : Fe → Fe) : EffectLane s (s.modFe g) := by
  constructor <;> rfl

theorem EffectLane.modSc (s : State) (g : Sc → Sc) : EffectLane s (s.modSc g) := by
  constructor <;> rfl

theorem EffectLane.modSe (s : State) (g : Se → Se) : EffectLane s (s.modSe g) := by
  constructor <;> rfl

theorem EffectLane.count (s : State) (n : Nat) : EffectLane s { s with orderCount := n } := by constructor <;> rfl

theorem EffectLane.anyOrder {fs : List (State → State)} {s : State} (h : ∀ f ∈ fs, ∀ s, EffectLane s (f s)) :
    EffectLane s (anyOrder fs s) :=
  anyOrder_keeps (P := EffectLane s) (.refl s) (fun f hf _ k => k.trans (h f hf _)) (fun _ n k => k.trans (.count _ n))

theorem EffectLane.foldl {α : Type} {f : State → α → State} (h : ∀ s a, EffectLane s (f s a)) :
    ∀ (l : List α) (s : State), EffectLane s (l.foldl f s)
  | [], s => .refl s
  | a :: l, s => (h s a).trans (EffectLane.foldl h l (f s a))

/-- What a change of entries, functions or target can change. -/
structure TableLane (s t : State) : Prop where
  phase : t.phase = s.phase
  ml : t.ml = s.ml
  scan : t.scan = s.scan
  mt : t.mt = s.mt
  ps : t.ps = s.ps
  service : t.service = s.service
  decoder : t.decoder = s.decoder
  ss : t.ss = s.ss
  nv : t.nv = s.nv
  pending : t.pending = s.pending
  slu_r : t.slu.r = s.slu.r
  slu_f : t.slu.f = s.slu.f
  slu_travel : t.slu.travel = s.slu.travel
  ct_requested : t.ct.requested = s.ct.requested
  ct_latch : t.ct.latch = s.ct.latch

theorem TableLane.refl (s : State) : TableLane s s := by constructor <;> rfl

theorem TableLane.trans {s t u : State} (h : TableLane s t) (k : TableLane t u) : TableLane s u :=
  ⟨k.phase.trans h.phase, k.ml.trans h.ml, k.scan.trans h.scan,
    k.mt.trans h.mt, k.ps.trans h.ps, k.service.trans h.service,
    k.decoder.trans h.decoder, k.ss.trans h.ss, k.nv.trans h.nv,
    k.pending.trans h.pending, k.slu_r.trans h.slu_r, k.slu_f.trans h.slu_f,
    k.slu_travel.trans h.slu_travel, k.ct_requested.trans h.ct_requested, k.ct_latch.trans h.ct_latch⟩

theorem TableLane.modSlu (s : State) (g : Slu → Slu)
    (h0 : ∀ b, (g b).r = b.r := by intro _; rfl)
    (h1 : ∀ b, (g b).f = b.f := by intro _; rfl)
    (h2 : ∀ b, (g b).travel = b.travel := by intro _; rfl) :
    TableLane s (s.modSlu g) :=
  ⟨rfl, rfl, rfl, rfl, rfl, rfl, rfl, rfl, rfl, rfl, h0 _, h1 _,
    h2 _, rfl, rfl⟩

theorem TableLane.modFe (s : State) (g : Fe → Fe) : TableLane s (s.modFe g) := by
  constructor <;> rfl

theorem TableLane.modSc (s : State) (g : Sc → Sc) : TableLane s (s.modSc g) := by
  constructor <;> rfl

theorem TableLane.modSe (s : State) (g : Se → Se) : TableLane s (s.modSe g) := by
  constructor <;> rfl

theorem TableLane.modRadio (s : State) (g : Radio → Radio) : TableLane s (s.modRadio g) := by
  constructor <;> rfl

theorem TableLane.modCt (s : State) (g : Ct → Ct)
    (h0 : ∀ b, (g b).requested = b.requested := by intro _; rfl)
    (h1 : ∀ b, (g b).latch = b.latch := by intro _; rfl) :
    TableLane s (s.modCt g) :=
  ⟨rfl, rfl, rfl, rfl, rfl, rfl, rfl, rfl, rfl, rfl, rfl, rfl,
    rfl, h0 _, h1 _⟩

theorem TableLane.count (s : State) (n : Nat) : TableLane s { s with orderCount := n } := by constructor <;> rfl

theorem TableLane.anyOrder {fs : List (State → State)} {s : State} (h : ∀ f ∈ fs, ∀ s, TableLane s (f s)) :
    TableLane s (anyOrder fs s) :=
  anyOrder_keeps (P := TableLane s) (.refl s) (fun f hf _ k => k.trans (h f hf _)) (fun _ n k => k.trans (.count _ n))

theorem TableLane.foldl {α : Type} {f : State → α → State} (h : ∀ s a, TableLane s (f s a)) :
    ∀ (l : List α) (s : State), TableLane s (l.foldl f s)
  | [], s => .refl s
  | a :: l, s => (h s a).trans (TableLane.foldl h l (f s a))

/-- What the application of a setting can change. -/
structure SettingLane (s t : State) : Prop where
  phase : t.phase = s.phase
  ml : t.ml = s.ml
  scan : t.scan = s.scan
  service : t.service = s.service
  decoder : t.decoder = s.decoder
  pending : t.pending = s.pending
  slu_r : t.slu.r = s.slu.r
  slu_f : t.slu.f = s.slu.f
  slu_travel : t.slu.travel = s.slu.travel
  ct_requested : t.ct.requested = s.ct.requested
  ct_latch : t.ct.latch = s.ct.latch
  ps_power : t.ps.power = s.ps.power
  ps_lost : t.ps.lost = s.ps.lost
  ps_back : t.ps.back = s.ps.back
  ps_bridging : t.ps.bridging = s.ps.bridging
  ps_allowance : t.ps.allowance = s.ps.allowance
  ps_restartKind : t.ps.restartKind = s.ps.restartKind
  ps_outputsOff : t.ps.outputsOff = s.ps.outputsOff
  ps_pendingRestart : t.ps.pendingRestart = s.ps.pendingRestart
  ss_writeStop : t.ss.writeStop = s.ss.writeStop
  ss_rewrite : t.ss.rewrite = s.ss.rewrite
  nv_slots : t.nv.slots = s.nv.slots
  nv_odometer : t.nv.odometer = s.nv.odometer
  nv_record : t.nv.record = s.nv.record
  nv_markPresent : t.nv.markPresent = s.nv.markPresent

theorem SettingLane.refl (s : State) : SettingLane s s := by constructor <;> rfl

theorem SettingLane.trans {s t u : State} (h : SettingLane s t) (k : SettingLane t u) : SettingLane s u :=
  ⟨k.phase.trans h.phase, k.ml.trans h.ml, k.scan.trans h.scan,
    k.service.trans h.service, k.decoder.trans h.decoder, k.pending.trans h.pending,
    k.slu_r.trans h.slu_r, k.slu_f.trans h.slu_f, k.slu_travel.trans h.slu_travel,
    k.ct_requested.trans h.ct_requested, k.ct_latch.trans h.ct_latch, k.ps_power.trans h.ps_power,
    k.ps_lost.trans h.ps_lost, k.ps_back.trans h.ps_back, k.ps_bridging.trans h.ps_bridging,
    k.ps_allowance.trans h.ps_allowance, k.ps_restartKind.trans h.ps_restartKind, k.ps_outputsOff.trans h.ps_outputsOff,
    k.ps_pendingRestart.trans h.ps_pendingRestart, k.ss_writeStop.trans h.ss_writeStop, k.ss_rewrite.trans h.ss_rewrite,
    k.nv_slots.trans h.nv_slots, k.nv_odometer.trans h.nv_odometer, k.nv_record.trans h.nv_record,
    k.nv_markPresent.trans h.nv_markPresent⟩

theorem SettingLane.modSlu (s : State) (g : Slu → Slu)
    (h0 : ∀ b, (g b).r = b.r := by intro _; rfl)
    (h1 : ∀ b, (g b).f = b.f := by intro _; rfl)
    (h2 : ∀ b, (g b).travel = b.travel := by intro _; rfl) :
    SettingLane s (s.modSlu g) :=
  ⟨rfl, rfl, rfl, rfl, rfl, rfl, h0 _, h1 _, h2 _, rfl, rfl, rfl,
    rfl, rfl, rfl, rfl, rfl, rfl, rfl, rfl, rfl, rfl, rfl, rfl,
    rfl⟩

theorem SettingLane.modMt (s : State) (g : Mt → Mt) : SettingLane s (s.modMt g) := by
  constructor <;> rfl

theorem SettingLane.modFe (s : State) (g : Fe → Fe) : SettingLane s (s.modFe g) := by
  constructor <;> rfl

theorem SettingLane.modSc (s : State) (g : Sc → Sc) : SettingLane s (s.modSc g) := by
  constructor <;> rfl

theorem SettingLane.modSe (s : State) (g : Se → Se) : SettingLane s (s.modSe g) := by
  constructor <;> rfl

theorem SettingLane.modRadio (s : State) (g : Radio → Radio) : SettingLane s (s.modRadio g) := by
  constructor <;> rfl

theorem SettingLane.modCt (s : State) (g : Ct → Ct)
    (h0 : ∀ b, (g b).requested = b.requested := by intro _; rfl)
    (h1 : ∀ b, (g b).latch = b.latch := by intro _; rfl) :
    SettingLane s (s.modCt g) :=
  ⟨rfl, rfl, rfl, rfl, rfl, rfl, rfl, rfl, rfl, h0 _, h1 _, rfl,
    rfl, rfl, rfl, rfl, rfl, rfl, rfl, rfl, rfl, rfl, rfl, rfl,
    rfl⟩

theorem SettingLane.modSs (s : State) (g : Ss → Ss)
    (h0 : ∀ b, (g b).writeStop = b.writeStop := by intro _; rfl)
    (h1 : ∀ b, (g b).rewrite = b.rewrite := by intro _; rfl) :
    SettingLane s (s.modSs g) :=
  ⟨rfl, rfl, rfl, rfl, rfl, rfl, rfl, rfl, rfl, rfl, rfl, rfl,
    rfl, rfl, rfl, rfl, rfl, rfl, rfl, h0 _, h1 _, rfl, rfl, rfl,
    rfl⟩

theorem SettingLane.modNv (s : State) (g : Nv → Nv)
    (h0 : ∀ b, (g b).slots = b.slots := by intro _; rfl)
    (h1 : ∀ b, (g b).odometer = b.odometer := by intro _; rfl)
    (h2 : ∀ b, (g b).record = b.record := by intro _; rfl)
    (h3 : ∀ b, (g b).markPresent = b.markPresent := by intro _; rfl) :
    SettingLane s (s.modNv g) :=
  ⟨rfl, rfl, rfl, rfl, rfl, rfl, rfl, rfl, rfl, rfl, rfl, rfl,
    rfl, rfl, rfl, rfl, rfl, rfl, rfl, rfl, rfl, h0 _, h1 _, h2 _,
    h3 _⟩

theorem SettingLane.modPs (s : State) (g : Ps → Ps)
    (h0 : ∀ b, (g b).power = b.power := by intro _; rfl)
    (h1 : ∀ b, (g b).lost = b.lost := by intro _; rfl)
    (h2 : ∀ b, (g b).back = b.back := by intro _; rfl)
    (h3 : ∀ b, (g b).bridging = b.bridging := by intro _; rfl)
    (h4 : ∀ b, (g b).allowance = b.allowance := by intro _; rfl)
    (h5 : ∀ b, (g b).restartKind = b.restartKind := by intro _; rfl)
    (h6 : ∀ b, (g b).outputsOff = b.outputsOff := by intro _; rfl)
    (h7 : ∀ b, (g b).pendingRestart = b.pendingRestart := by intro _; rfl) :
    SettingLane s (s.modPs g) :=
  ⟨rfl, rfl, rfl, rfl, rfl, rfl, rfl, rfl, rfl, rfl, rfl, h0 _,
    h1 _, h2 _, h3 _, h4 _, h5 _, h6 _, h7 _, rfl, rfl, rfl, rfl, rfl,
    rfl⟩

theorem SettingLane.count (s : State) (n : Nat) : SettingLane s { s with orderCount := n } := by constructor <;> rfl

theorem SettingLane.anyOrder {fs : List (State → State)} {s : State} (h : ∀ f ∈ fs, ∀ s, SettingLane s (f s)) :
    SettingLane s (anyOrder fs s) :=
  anyOrder_keeps (P := SettingLane s) (.refl s) (fun f hf _ k => k.trans (h f hf _)) (fun _ n k => k.trans (.count _ n))

theorem SettingLane.foldl {α : Type} {f : State → α → State} (h : ∀ s a, SettingLane s (f s a)) :
    ∀ (l : List α) (s : State), SettingLane s (l.foldl f s)
  | [], s => .refl s
  | a :: l, s => (h s a).trans (SettingLane.foldl h l (f s a))

/-- What a change of the ramp value, the travel direction or the Stop latch can change. -/
structure MotionLane (s t : State) : Prop where
  phase : t.phase = s.phase
  scan : t.scan = s.scan
  service : t.service = s.service
  decoder : t.decoder = s.decoder
  pending : t.pending = s.pending
  ps_power : t.ps.power = s.ps.power
  ps_lost : t.ps.lost = s.ps.lost
  ps_back : t.ps.back = s.ps.back
  ps_bridging : t.ps.bridging = s.ps.bridging
  ps_allowance : t.ps.allowance = s.ps.allowance
  ps_restartKind : t.ps.restartKind = s.ps.restartKind
  ps_outputsOff : t.ps.outputsOff = s.ps.outputsOff
  ps_pendingRestart : t.ps.pendingRestart = s.ps.pendingRestart
  ss_writeStop : t.ss.writeStop = s.ss.writeStop
  ss_rewrite : t.ss.rewrite = s.ss.rewrite
  nv_slots : t.nv.slots = s.nv.slots
  nv_odometer : t.nv.odometer = s.nv.odometer
  nv_record : t.nv.record = s.nv.record
  nv_markPresent : t.nv.markPresent = s.nv.markPresent

theorem MotionLane.refl (s : State) : MotionLane s s := by constructor <;> rfl

theorem MotionLane.trans {s t u : State} (h : MotionLane s t) (k : MotionLane t u) : MotionLane s u :=
  ⟨k.phase.trans h.phase, k.scan.trans h.scan, k.service.trans h.service,
    k.decoder.trans h.decoder, k.pending.trans h.pending, k.ps_power.trans h.ps_power,
    k.ps_lost.trans h.ps_lost, k.ps_back.trans h.ps_back, k.ps_bridging.trans h.ps_bridging,
    k.ps_allowance.trans h.ps_allowance, k.ps_restartKind.trans h.ps_restartKind, k.ps_outputsOff.trans h.ps_outputsOff,
    k.ps_pendingRestart.trans h.ps_pendingRestart, k.ss_writeStop.trans h.ss_writeStop, k.ss_rewrite.trans h.ss_rewrite,
    k.nv_slots.trans h.nv_slots, k.nv_odometer.trans h.nv_odometer, k.nv_record.trans h.nv_record,
    k.nv_markPresent.trans h.nv_markPresent⟩

theorem MotionLane.modSlu (s : State) (g : Slu → Slu) : MotionLane s (s.modSlu g) := by
  constructor <;> rfl

theorem MotionLane.modMl (s : State) (g : Ml → Ml) : MotionLane s (s.modMl g) := by
  constructor <;> rfl

theorem MotionLane.modMt (s : State) (g : Mt → Mt) : MotionLane s (s.modMt g) := by
  constructor <;> rfl

theorem MotionLane.modFe (s : State) (g : Fe → Fe) : MotionLane s (s.modFe g) := by
  constructor <;> rfl

theorem MotionLane.modSc (s : State) (g : Sc → Sc) : MotionLane s (s.modSc g) := by
  constructor <;> rfl

theorem MotionLane.modSe (s : State) (g : Se → Se) : MotionLane s (s.modSe g) := by
  constructor <;> rfl

theorem MotionLane.modRadio (s : State) (g : Radio → Radio) : MotionLane s (s.modRadio g) := by
  constructor <;> rfl

theorem MotionLane.modCt (s : State) (g : Ct → Ct) : MotionLane s (s.modCt g) := by
  constructor <;> rfl

theorem MotionLane.modSs (s : State) (g : Ss → Ss)
    (h0 : ∀ b, (g b).writeStop = b.writeStop := by intro _; rfl)
    (h1 : ∀ b, (g b).rewrite = b.rewrite := by intro _; rfl) :
    MotionLane s (s.modSs g) :=
  ⟨rfl, rfl, rfl, rfl, rfl, rfl, rfl, rfl, rfl, rfl, rfl, rfl,
    rfl, h0 _, h1 _, rfl, rfl, rfl, rfl⟩

theorem MotionLane.modNv (s : State) (g : Nv → Nv)
    (h0 : ∀ b, (g b).slots = b.slots := by intro _; rfl)
    (h1 : ∀ b, (g b).odometer = b.odometer := by intro _; rfl)
    (h2 : ∀ b, (g b).record = b.record := by intro _; rfl)
    (h3 : ∀ b, (g b).markPresent = b.markPresent := by intro _; rfl) :
    MotionLane s (s.modNv g) :=
  ⟨rfl, rfl, rfl, rfl, rfl, rfl, rfl, rfl, rfl, rfl, rfl, rfl,
    rfl, rfl, rfl, h0 _, h1 _, h2 _, h3 _⟩

theorem MotionLane.modPs (s : State) (g : Ps → Ps)
    (h0 : ∀ b, (g b).power = b.power := by intro _; rfl)
    (h1 : ∀ b, (g b).lost = b.lost := by intro _; rfl)
    (h2 : ∀ b, (g b).back = b.back := by intro _; rfl)
    (h3 : ∀ b, (g b).bridging = b.bridging := by intro _; rfl)
    (h4 : ∀ b, (g b).allowance = b.allowance := by intro _; rfl)
    (h5 : ∀ b, (g b).restartKind = b.restartKind := by intro _; rfl)
    (h6 : ∀ b, (g b).outputsOff = b.outputsOff := by intro _; rfl)
    (h7 : ∀ b, (g b).pendingRestart = b.pendingRestart := by intro _; rfl) :
    MotionLane s (s.modPs g) :=
  ⟨rfl, rfl, rfl, rfl, rfl, h0 _, h1 _, h2 _, h3 _, h4 _, h5 _, h6 _,
    h7 _, rfl, rfl, rfl, rfl, rfl, rfl⟩

theorem MotionLane.count (s : State) (n : Nat) : MotionLane s { s with orderCount := n } := by constructor <;> rfl

theorem MotionLane.anyOrder {fs : List (State → State)} {s : State} (h : ∀ f ∈ fs, ∀ s, MotionLane s (f s)) :
    MotionLane s (anyOrder fs s) :=
  anyOrder_keeps (P := MotionLane s) (.refl s) (fun f hf _ k => k.trans (h f hf _)) (fun _ n k => k.trans (.count _ n))

theorem MotionLane.foldl {α : Type} {f : State → α → State} (h : ∀ s a, MotionLane s (f s a)) :
    ∀ (l : List α) (s : State), MotionLane s (l.foldl f s)
  | [], s => .refl s
  | a :: l, s => (h s a).trans (MotionLane.foldl h l (f s a))

theorem SoundLane.toSmokeLane {s t : State} (h : SoundLane s t) : SmokeLane s t :=
  ⟨h.phase, h.slu, h.ml, h.scan,
    h.mt, h.fe, h.ps, h.radio,
    h.service, h.decoder, h.ct, h.ss,
    h.nv, h.orderCount, h.pending⟩

theorem RadioLane.toLinkLane {s t : State} (h : RadioLane s t) : LinkLane s t :=
  ⟨h.phase, h.slu, h.ml, h.scan,
    h.mt, h.fe, h.sc, h.se,
    h.ps, h.decoder, h.ct, h.ss,
    h.nv, h.orderCount, h.pending⟩

theorem SmokeLane.toEffectLane {s t : State} (h : SmokeLane s t) : EffectLane s t :=
  ⟨h.phase, h.ml, h.scan, h.mt,
    h.ps, h.radio, h.service, h.decoder,
    h.ct, h.ss, h.nv, h.pending,
    congrArg (·.r) h.slu, congrArg (·.f) h.slu, congrArg (·.travel) h.slu⟩

theorem LightLane.toEffectLane {s t : State} (h : LightLane s t) : EffectLane s t :=
  ⟨h.phase, h.ml, h.scan, h.mt,
    h.ps, h.radio, h.service, h.decoder,
    h.ct, h.ss, h.nv, h.pending,
    congrArg (·.r) h.slu, congrArg (·.f) h.slu, congrArg (·.travel) h.slu⟩

theorem EffectLane.toTableLane {s t : State} (h : EffectLane s t) : TableLane s t :=
  ⟨h.phase, h.ml, h.scan, h.mt,
    h.ps, h.service, h.decoder, h.ss,
    h.nv, h.pending, h.slu_r, h.slu_f,
    h.slu_travel, congrArg (·.requested) h.ct, congrArg (·.latch) h.ct⟩

theorem RadioLane.toTableLane {s t : State} (h : RadioLane s t) : TableLane s t :=
  ⟨h.phase, h.ml, h.scan, h.mt,
    h.ps, h.service, h.decoder, h.ss,
    h.nv, h.pending, congrArg (·.r) h.slu, congrArg (·.f) h.slu,
    congrArg (·.travel) h.slu, congrArg (·.requested) h.ct, congrArg (·.latch) h.ct⟩

theorem TableLane.toSettingLane {s t : State} (h : TableLane s t) : SettingLane s t :=
  ⟨h.phase, h.ml, h.scan, h.service,
    h.decoder, h.pending, h.slu_r, h.slu_f,
    h.slu_travel, h.ct_requested, h.ct_latch, congrArg (·.power) h.ps,
    congrArg (·.lost) h.ps, congrArg (·.back) h.ps, congrArg (·.bridging) h.ps, congrArg (·.allowance) h.ps,
    congrArg (·.restartKind) h.ps, congrArg (·.outputsOff) h.ps, congrArg (·.pendingRestart) h.ps, congrArg (·.writeStop) h.ss,
    congrArg (·.rewrite) h.ss, congrArg (·.slots) h.nv, congrArg (·.odometer) h.nv, congrArg (·.record) h.nv,
    congrArg (·.markPresent) h.nv⟩

theorem QueueLane.toWriteLane {s t : State} (h : QueueLane s t) : WriteLane s t :=
  ⟨h.phase, h.slu, h.ml, h.scan,
    h.mt, h.fe, h.sc, h.se,
    h.radio, h.service, h.decoder, h.ct,
    h.orderCount, h.pending, h.ps_power, h.ps_lost,
    h.ps_back, h.ps_bridging, h.ps_allowance, h.ps_restartKind,
    h.ps_outputsOff, h.ss_working⟩

theorem QueueLane.toSettingLane {s t : State} (h : QueueLane s t) : SettingLane s t :=
  ⟨h.phase, h.ml, h.scan, h.service,
    h.decoder, h.pending, congrArg (·.r) h.slu, congrArg (·.f) h.slu,
    congrArg (·.travel) h.slu, congrArg (·.requested) h.ct, congrArg (·.latch) h.ct, h.ps_power,
    h.ps_lost, h.ps_back, h.ps_bridging, h.ps_allowance,
    h.ps_restartKind, h.ps_outputsOff, h.ps_pendingRestart, h.ss_writeStop,
    h.ss_rewrite, h.nv_slots, h.nv_odometer, h.nv_record,
    h.nv_markPresent⟩

theorem SettingLane.toMotionLane {s t : State} (h : SettingLane s t) : MotionLane s t :=
  ⟨h.phase, h.scan, h.service, h.decoder,
    h.pending, h.ps_power, h.ps_lost, h.ps_back,
    h.ps_bridging, h.ps_allowance, h.ps_restartKind, h.ps_outputsOff,
    h.ps_pendingRestart, h.ss_writeStop, h.ss_rewrite, h.nv_slots,
    h.nv_odometer, h.nv_record, h.nv_markPresent⟩

end Sys2Proof.Machine
end

