-- ==== Sys2Proof/Laws/SoundLaws.lean ====
section
/-! SUPPORT. What the Sound Engine's operations on a voice leave of it, and that the engine's operations change the Sound
Engine alone. -/

namespace Sys2Proof.Machine

/-! ### The refill test, RELEASING and a refill's samples: what they leave of a voice -/

/-- The refill test changes the refill request alone. -/
theorem testRefill_eq (v : Voice) : testRefill v = { v with refill := (testRefill v).refill } := by
  unfold testRefill; split <;> rfl

@[simp] theorem testRefill_st (v : Voice) : (testRefill v).st = v.st := by rw [testRefill_eq]
@[simp] theorem testRefill_position (v : Voice) : (testRefill v).position = v.position := by rw [testRefill_eq]
@[simp] theorem testRefill_buffer (v : Voice) : (testRefill v).buffer = v.buffer := by rw [testRefill_eq]
@[simp] theorem testRefill_skip (v : Voice) : (testRefill v).skip = v.skip := by rw [testRefill_eq]
@[simp] theorem testRefill_fetch (v : Voice) : (testRefill v).fetch = v.fetch := by rw [testRefill_eq]

/-- A voice that enters RELEASING keeps its place; it drops samples only where one lies after a wrap. -/
theorem enterReleasing_eq (v : Voice) :
    enterReleasing v =
      { v with
        st := .releasing, loopOn := false, buffer := (enterReleasing v).buffer
        fetch := (enterReleasing v).fetch, skip := (enterReleasing v).skip } := by
  unfold enterReleasing; split <;> rfl

theorem enterReleasing_buffer (v : Voice) :
    (enterReleasing v).buffer = if v.unwrapped then v.buffer else v.buffer.take (v.loopEnd - v.intPos) := by
  unfold enterReleasing; split <;> rfl

theorem enterReleasing_fetch (v : Voice) :
    (enterReleasing v).fetch =
      if v.unwrapped then v.fetch else v.intPos + (v.buffer.take (v.loopEnd - v.intPos)).length := by
  unfold enterReleasing; split <;> rfl

theorem takenSamples_length (v : Voice) (start preWrap : Nat) (brought : List Sample) :
    (takenSamples v start preWrap brought).length ≤ brought.length := by
  unfold takenSamples; split
  · split
    · exact List.length_take_le' ..
    · simp
  · exact Nat.le_refl _

/-- Outside RELEASING a voice takes every sample of its refill. -/
theorem takenSamples_all {v : Voice} (start preWrap : Nat) (brought : List Sample) (h : v.st ≠ .releasing) :
    takenSamples v start preWrap brought = brought := if_neg h

@[simp] theorem refilledVoice_st (v : Voice) (start preWrap : Nat) (brought : List Sample) :
    (refilledVoice v start preWrap brought).st = v.st := by simp [refilledVoice]

@[simp] theorem refilledVoice_position (v : Voice) (start preWrap : Nat) (brought : List Sample) :
    (refilledVoice v start preWrap brought).position = v.position := by simp [refilledVoice]

/-- A refill appends what the voice takes of it, less what the voice has passed. -/
theorem refilledVoice_buffer (v : Voice) (start preWrap : Nat) (brought : List Sample) :
    (refilledVoice v start preWrap brought).buffer = v.buffer ++ (takenSamples v start preWrap brought).drop v.skip := by
  simp [refilledVoice]

/-! ### The engine's operations change the Sound Engine alone -/

theorem setVoice_lane (i : Fin 8) (v : Voice) (s : State) : SoundLane s (setVoice i v s) := .modSe ..

theorem grantPort_lane (s : State) : SoundLane s (grantPort s) := by
  unfold grantPort; repeat' split
  all_goals with_reducible first | exact .refl _ | exact .modSe ..

theorem allocateFrom_lane : ∀ (q : List Cue) (s : State), SoundLane s (allocateFrom q s)
  | [], s => .modSe ..
  | c :: q, s => by
    unfold allocateFrom; repeat' split
    all_goals with_reducible first | exact allocateFrom_lane q s | exact .modSe ..

theorem allocate_lane (s : State) : SoundLane s (allocate s) := by
  unfold allocate; split
  · exact (allocateFrom_lane _ _).trans (grantPort_lane _)
  · exact .refl _

theorem joinCue_lane (c : Cue) (s : State) : SoundLane s (joinCue c s) :=
  (SoundLane.modSe ..).trans (allocate_lane _)

theorem joinSystem_lane (k : CueKind) (chuff : Option Nat) (s : State) : SoundLane s (joinSystem k chuff s) := by
  unfold joinSystem; split
  · exact .refl _
  · exact joinCue_lane ..

theorem releaseWhere_lane (p : Cue → Bool) (s : State) : SoundLane s (releaseWhere p s) := .modSe ..

theorem releaseEntry_lane (e : Fin 24) (s : State) : SoundLane s (releaseEntry e s) := releaseWhere_lane ..

theorem raiseAmbient_lane (s : State) : SoundLane s (raiseAmbient s) := by
  unfold raiseAmbient; split
  · exact .refl _
  · exact joinSystem_lane ..

/-- A raised system cue changes the Sound Engine alone. -/
theorem raiseCue_lane (k : CueKind) (chuff : Option Nat) (s : State) : SoundLane s (raiseCue k chuff s) := by
  unfold raiseCue; repeat' split
  all_goals with_reducible first
    | exact .refl _
    | exact joinSystem_lane ..
    | exact raiseAmbient_lane _
    | exact (releaseWhere_lane ..).trans (joinSystem_lane ..)
    | exact (joinSystem_lane ..).trans (raiseAmbient_lane _)

/-- A raised DIRECT cue changes the Sound Engine alone. -/
theorem raiseDirect_lane (o : CueOrigin) (n : Nat) (s : State) : SoundLane s (raiseDirect o n s) := by
  unfold raiseDirect; split
  · exact joinCue_lane ..
  · exact .refl _

theorem entryReadDone_lane (bytes : Vector Byte 16) (s : State) : SoundLane s (entryReadDone bytes s) := by
  unfold entryReadDone; split
  · dsimp only
    split
    · exact (SoundLane.modSe ..).trans (grantPort_lane _)
    · exact (((SoundLane.modSe ..).trans (.modSe ..)).trans (allocate_lane _)).trans (grantPort_lane _)
  all_goals exact .refl _

theorem refillDone_lane (bytes : Vector Byte 32) (s : State) : SoundLane s (refillDone bytes s) := by
  unfold refillDone; split
  · dsimp only
    split
    · exact ((SoundLane.modSe ..).trans (setVoice_lane ..)).trans (grantPort_lane _)
    · exact (SoundLane.modSe ..).trans (grantPort_lane _)
  all_goals exact .refl _

theorem outputSample_lane (s : State) : SoundLane s (outputSample s) := by
  unfold outputSample; split
  · exact .refl _
  · exact (SoundLane.modSe ..).trans (grantPort_lane _)

theorem soundOff_lane (s : State) : SoundLane s (soundOff s) := .modSe ..

/-! ### What the Sound Engine makes of a cue depends on its own state, the settings and the power state alone -/

theorem grantPort_se {s t : State} (se : t.se = s.se) : (grantPort t).se = (grantPort s).se := by
  unfold grantPort; rw [se]; split
  · split
    · simp [se]
    · cases nextRefill s.se <;> simp [se]
  · exact se

theorem allocateFrom_se : ∀ (q : List Cue) {s t : State}, t.se = s.se → (allocateFrom q t).se = (allocateFrom q s).se
  | [], s, t, h => by simp [allocateFrom, h]
  | c :: q, s, t, h => by
    unfold allocateFrom; rw [h]; split
    · exact allocateFrom_se q h
    · cases chooseVoice s.se c with
      | none => exact allocateFrom_se q h
      | some i => simp [h]

theorem allocate_se {s t : State} (se : t.se = s.se) (ps : t.ps = s.ps) : (allocate t).se = (allocate s).se := by
  unfold allocate; rw [se, ps]; split
  · exact grantPort_se (allocateFrom_se _ se)
  · exact se

theorem joinCue_se {s t : State} (c : Cue) (se : t.se = s.se) (ps : t.ps = s.ps) :
    (joinCue c t).se = (joinCue c s).se :=
  allocate_se (by simp [se]) (by simp [ps])

theorem joinSystem_se {s t : State} (k : CueKind) (chuff : Option Nat) (se : t.se = s.se) (ps : t.ps = s.ps)
    (working : t.ss.working = s.ss.working) : (joinSystem k chuff t).se = (joinSystem k chuff s).se := by
  have cue : systemCue t k chuff = systemCue s k chuff := by simp [systemCue, variantOffset, setting, se, working]
  unfold joinSystem; rw [se, cue]; split
  · exact se
  · exact joinCue_se _ se ps

theorem raiseAmbient_se {s t : State} (se : t.se = s.se) (ps : t.ps = s.ps) (working : t.ss.working = s.ss.working) :
    (raiseAmbient t).se = (raiseAmbient s).se := by
  unfold raiseAmbient; rw [se]; split
  · exact se
  · exact joinSystem_se _ _ se ps working

/-- A cue raised in two states that agree on the Sound Engine, the settings and the power state. -/
theorem raiseCue_se {s t : State} (k : CueKind) (chuff : Option Nat) (se : t.se = s.se) (ps : t.ps = s.ps)
    (working : t.ss.working = s.ss.working) : (raiseCue k chuff t).se = (raiseCue k chuff s).se := by
  have takes : takesCues t = takesCues s := by simp [takesCues, se, ps]
  have motor : isMotorType t = isMotorType s := by simp [isMotorType, setting, working]
  unfold raiseCue; rw [takes, motor]; split
  · cases k
    case engineStart =>
      simp only; split
      · apply raiseAmbient_se (joinSystem_se _ _ se ps working)
        · rw [(joinSystem_lane ..).ps, (joinSystem_lane ..).ps, ps]
        · rw [(joinSystem_lane ..).ss, (joinSystem_lane ..).ss, working]
      · exact joinSystem_se _ _ se ps working
    case engineStop =>
      simp only; apply joinSystem_se
      · split <;> simp [releaseWhere, se]
      · split <;> simp [releaseWhere, ps]
      · split <;> simp [releaseWhere, working]
    case ambient => exact raiseAmbient_se se ps working
    all_goals exact joinSystem_se _ _ se ps working
  · exact se

/-- A raised cue changes the Sound Engine alone. -/
theorem raiseCue_eq (k : CueKind) (chuff : Option Nat) (s : State) :
    raiseCue k chuff s = { s with se := (raiseCue k chuff s).se } := by
  have lane := raiseCue_lane k chuff s
  revert lane; generalize raiseCue k chuff s = t; intro lane
  obtain ⟨⟩ := t; cases lane; simp_all

end Sys2Proof.Machine
end

