-- ==== Sys2Proof/Laws/SmokeLaws.lean ====
section
/-! SUPPORT. The Smoke Controller's operations change the Smoke Controller and, through SMOKE_DRY, the Sound Engine. -/

namespace Sys2Proof.Machine

theorem formHeater_lane (s : State) : SmokeLane s (formHeater s) := by
  unfold formHeater; exact .modSc ..

theorem formFan_lane (s : State) : SmokeLane s (formFan s) := by
  unfold formFan; split
  · exact .modSc ..
  · exact .refl _

theorem enterDry_lane (s : State) : SmokeLane s (enterDry s) :=
  (SmokeLane.modSc ..).trans (raiseCue_lane ..).toSmokeLane

theorem smokeTests_lane (s : State) : SmokeLane s (smokeTests s) := by
  unfold smokeTests; repeat' split
  all_goals with_reducible first
    | exact .refl _
    | exact enterDry_lane _
    | exact (SmokeLane.modSc ..).trans (formFan_lane _)

theorem enterHeating_lane (st : SmokeState) (s : State) : SmokeLane s (enterHeating st s) :=
  (((SmokeLane.modSc ..).trans (formFan_lane _)).trans (smokeTests_lane _)).trans (formHeater_lane _)

theorem smokeEnableOn_lane (s : State) : SmokeLane s (smokeEnableOn s) := by
  unfold smokeEnableOn; split
  · dsimp only
    split
    · exact (SmokeLane.modSc ..).trans (enterHeating_lane ..)
    · exact ((SmokeLane.modSc ..).trans (.modSc ..)).trans (formHeater_lane _)
  · exact .refl _

theorem beginPurge_lane (s : State) : SmokeLane s (beginPurge s) := by
  unfold beginPurge; exact .modSc ..

theorem smokeTurnOff_lane (s : State) : SmokeLane s (smokeEnableOff.smokeTurnOff s) := by
  unfold smokeEnableOff.smokeTurnOff; split
  · exact .refl _
  · exact (SmokeLane.modSc ..).trans (beginPurge_lane _)

theorem smokeEnableOff_lane (s : State) : SmokeLane s (smokeEnableOff s) := by
  unfold smokeEnableOff; split
  all_goals with_reducible first | exact .refl _ | exact smokeTurnOff_lane _ | exact .modSc ..

theorem smokeEnableReport_lane (on : Bool) (s : State) : SmokeLane s (smokeEnableReport on s) := by
  unfold smokeEnableReport; split
  · exact smokeEnableOn_lane _
  · exact smokeEnableOff_lane _

theorem smokeShed_lane (old new : PowerState) (s : State) : SmokeLane s (smokePower.smokeShed old new s) := by
  unfold smokePower.smokeShed; split
  · exact .modSc ..
  · exact .refl _

theorem smokePower_lane (old new : PowerState) (s : State) : SmokeLane s (smokePower old new s) := by
  unfold smokePower; repeat' split
  all_goals with_reducible first | exact .refl _ | exact smokeShed_lane .. | exact enterHeating_lane ..

theorem smokePuff_lane (s : State) : SmokeLane s (smokePuff s) := by
  unfold smokePuff; split
  · exact .modSc ..
  · exact .refl _

theorem smokeEngineStart_lane (s : State) : SmokeLane s (smokeEngineStart s) := by
  unfold smokeEngineStart; split
  · exact (SmokeLane.modSc ..).trans (formFan_lane _)
  · exact .refl _

theorem puffExpiry_lane (s : State) : SmokeLane s (puffExpiry s) := by
  unfold puffExpiry; split
  · exact .modSc ..
  · exact .refl _

theorem burstExpiry_lane (s : State) : SmokeLane s (burstExpiry s) := by
  unfold burstExpiry; split
  · exact (SmokeLane.modSc ..).trans (formFan_lane _)
  · exact .refl _

theorem purgeExpiry_lane (s : State) : SmokeLane s (purgeExpiry s) := by
  unfold purgeExpiry; split
  · exact .modSc ..
  · exact .refl _

theorem smokeTick_lane (s : State) : SmokeLane s (smokeTick s) :=
  (((SmokeLane.modSc ..).trans (puffExpiry_lane _)).trans (burstExpiry_lane _)).trans (purgeExpiry_lane _)

theorem smokeReading_lane (x : Nat) (s : State) : SmokeLane s (smokeReading x s) :=
  ((SmokeLane.modSc ..).trans (smokeTests_lane _)).trans (formHeater_lane _)

theorem smokeAllowance_lane (a : Nat) (s : State) : SmokeLane s (smokeAllowance a s) :=
  (SmokeLane.modSc ..).trans (formHeater_lane _)

theorem smokeTypeChange_lane (s : State) : SmokeLane s (smokeTypeChange s) := by
  unfold smokeTypeChange; repeat' split
  all_goals with_reducible first | exact .refl _ | exact (SmokeLane.modSc ..).trans (formFan_lane _) | exact .modSc ..

theorem smokeOff_lane (s : State) : SmokeLane s (smokeOff s) := .modSc ..

end Sys2Proof.Machine
end

