-- ==== Sys2Proof/Laws/ReplyLaws.lean ====
section
/-! SUPPORT. Replies change the link ports alone. -/

namespace Sys2Proof.Machine

theorem contentTaken_lane (body : ReplyBody) (s : State) : RadioLane s (contentTaken body s) := by
  unfold contentTaken; split
  all_goals with_reducible first | exact .refl _ | exact .modRadio ..

theorem trySend_lane (s : State) : RadioLane s (trySend s) := by
  unfold trySend; repeat' split
  all_goals with_reducible first | exact .refl _ | exact (RadioLane.modRadio ..).trans (contentTaken_lane ..)

/-- A reply to a throttle changes the Radio Link Port alone. -/
theorem queueReply_lane (dest : Nat) (body : ReplyBody) (s : State) : RadioLane s (queueReply dest body s) :=
  (RadioLane.modRadio ..).trans (trySend_lane _)

theorem statusToDriver_lane (s : State) : RadioLane s (statusToDriver s) := by
  unfold statusToDriver; split
  · exact queueReply_lane ..
  · exact .refl _

theorem replySent_lane (s : State) : RadioLane s (replySent s) := by
  unfold replySent; split
  · exact (RadioLane.modRadio ..).trans (trySend_lane _)
  · exact .refl _

theorem takeCredit_lane (n : Nat) (s : State) : RadioLane s (takeCredit n s) :=
  (RadioLane.modRadio ..).trans (trySend_lane _)

theorem telemetryStart_lane (s : State) : RadioLane s (telemetryStart s) := .modRadio ..

theorem telemetryStop_lane (s : State) : RadioLane s (telemetryStop s) := .modRadio ..

theorem telemetryExpiry_lane (s : State) : RadioLane s (telemetryExpiry s) := by
  unfold telemetryExpiry; split
  · exact (RadioLane.modRadio ..).trans (statusToDriver_lane _)
  · exact .refl _

theorem telemetryChange_lane (s : State) : RadioLane s (telemetryChange s) := by
  unfold telemetryChange; repeat' split
  all_goals with_reducible first | exact .refl _ | exact telemetryStop_lane _ | exact telemetryStart_lane _

theorem serviceSend_lane (body : ReplyBody) (s : State) : LinkLane s (serviceSend body s) :=
  (LinkLane.modService ..).trans (contentTaken_lane ..).toLinkLane

theorem serviceNext_lane (s : State) : LinkLane s (serviceNext s) := by
  unfold serviceNext; split
  · exact (LinkLane.modService ..).trans (serviceSend_lane ..)
  · exact .modService ..

theorem serviceReplySent_lane (s : State) : LinkLane s (serviceReplySent s) := by
  unfold serviceReplySent; split
  · exact (LinkLane.modService ..).trans (serviceNext_lane _)
  · exact .refl _

theorem answer_lane (source : Source) (body : ReplyBody) (s : State) : LinkLane s (answer source body s) := by
  unfold answer; split
  · exact (queueReply_lane ..).toLinkLane
  · exact serviceSend_lane ..

end Sys2Proof.Machine
end

