-- ==== Sys2Proof/Laws/EffectLaws.lean ====
section
/-! SUPPORT. The operations of the Speed Law Unit on T_eff and the permit, and of the Function Mapper: neither R, F nor
the travel direction changes, and no block outside their lane. -/

namespace Sys2Proof.Machine

theorem recompute_lane (s : State) : EffectLane s (recompute s) :=
  .modSlu _ _

theorem holdOffExpire_lane (s : State) : EffectLane s (holdOffExpire s) := by
  unfold holdOffExpire
  exact .trans (.modSlu _ _) (recompute_lane _)

theorem holdOffExpiry_lane (s : State) : EffectLane s (holdOffExpiry s) := by
  unfold holdOffExpiry; split
  · exact holdOffExpire_lane _
  · exact .refl _

theorem permitSettle_lane (required : Bool) (s : State) : EffectLane s (permitSettle required s) := by
  unfold permitSettle
  exact .trans (.modSlu _ _) (recompute_lane _)

theorem permitWithdraw_lane (s : State) : EffectLane s (permitWithdraw s) := by
  unfold permitWithdraw
  exact .trans (.trans (raiseCue_lane ..).toSmokeLane.toEffectLane (.modSlu _ _)) (recompute_lane _)

theorem permitGrant_lane (s : State) : EffectLane s (permitGrant s) := by
  unfold permitGrant
  refine .trans (.trans (.trans ?_ (.modSlu _ _)) (recompute_lane _)) (holdOffExpiry_lane _)
  exact (SmokeLane.trans (raiseCue_lane ..).toSmokeLane (smokeEngineStart_lane _)).toEffectLane

theorem permitReport_lane (old required granted : Bool) (s : State) :
    EffectLane s (permitReport old required granted s) := by
  unfold permitReport; repeat' split
  all_goals with_reducible first
    | exact .refl _
    | exact permitGrant_lane _
    | exact permitWithdraw_lane _
    | exact permitSettle_lane ..

theorem setGen_lane (k : Fin 8) (g : Gen) (s : State) : LightLane s (setGen k g s) := .modFe _ _

theorem restartGen_lane (k : Fin 8) (e : Fin 24) (s : State) : LightLane s (restartGen k e s) := by
  unfold restartGen; dsimp only; repeat' split
  · exact setGen_lane ..
  · exact (LightLane.modFe _ _).trans (setGen_lane ..)
  · exact setGen_lane ..

theorem flickerForm_lane (k : Fin 8) (p : Nat) (s : State) : LightLane s (flickerForm k p s) := by
  unfold flickerForm; exact .trans (.modFe _ _) (setGen_lane ..)

theorem giveToWinner_lane (k : Fin 8) (s : State) : LightLane s (giveToWinner k s) := by
  unfold giveToWinner; split
  · exact restartGen_lane ..
  · exact setGen_lane ..

theorem judgeFading_lane (c : Option (Fin 24)) (k : Fin 8) (d : Fin 24) (s : State) :
    LightLane s (judgeFading c k d s) := by
  unfold judgeFading; repeat' split
  all_goals with_reducible first | exact .refl _ | exact setGen_lane .. | exact giveToWinner_lane ..

theorem judgeDriven_lane (k : Fin 8) (d : Fin 24) (s : State) : LightLane s (judgeDriven k d s) := by
  unfold judgeDriven; dsimp only; repeat' split
  all_goals with_reducible first | exact .refl _ | exact setGen_lane .. | exact giveToWinner_lane ..

theorem judgeOutput_lane (c : Option (Fin 24)) (s : State) (k : Fin 8) : LightLane s (judgeOutput c s k) := by
  unfold judgeOutput; dsimp only; repeat' split
  all_goals with_reducible first | exact giveToWinner_lane .. | exact judgeDriven_lane .. | exact judgeFading_lane ..

theorem refreshLights_lane (s : State) : LightLane s (refreshLights s) := by
  unfold refreshLights; exact .modFe _ _

theorem soundChange_lane (old new : Vector Bool 24) (s : State) (e : Fin 24) :
    EffectLane s (soundChange old new s e) := by
  unfold soundChange; repeat' split
  all_goals with_reducible first
    | exact .refl _
    | exact (raiseDirect_lane ..).toSmokeLane.toEffectLane
    | exact (releaseEntry_lane ..).toSmokeLane.toEffectLane

theorem dimmerOutput_lane (s : State) (k : Fin 8) : LightLane s (dimmerOutput s k) := by
  unfold dimmerOutput; dsimp only; repeat' split
  all_goals with_reducible first | exact .refl _ | exact setGen_lane ..

theorem formModifiers_lane (s : State) : EffectLane s (formModifiers s) := by
  unfold formModifiers; exact .trans (.modFe ..) (.modSe ..)

theorem shuntReport_lane (old : Bool) (s : State) : EffectLane s (shuntReport old s) := by
  unfold shuntReport; split
  · exact .refl _
  · exact recompute_lane _

theorem dimmerReport_lane (old : Bool) (s : State) : LightLane s (dimmerReport old s) := by
  unfold dimmerReport; split
  · exact .refl _
  · exact .foldl dimmerOutput_lane ..

theorem quietReports_lane (s : State) : EffectLane s (quietReports s) := by
  unfold quietReports
  exact .trans (.trans (formModifiers_lane _) (shuntReport_lane ..)) (dimmerReport_lane ..).toEffectLane

/-- The notices of a map evaluation that can raise cues. -/
theorem cueReports_lane (withPermit : Bool) (s : State) : EffectLane s (cueReports withPermit s) := by
  unfold cueReports; dsimp only
  refine (EffectLane.modFe ..).trans (.anyOrder ?_)
  intro f hf u
  simp only [List.mem_append, mem_noticeIf] at hf
  rcases hf with (⟨-, rfl⟩ | ⟨-, rfl⟩) | ⟨-, rfl⟩
  · exact (raiseCue_lane ..).toSmokeLane.toEffectLane
  · exact (smokeEnableReport_lane ..).toEffectLane
  · exact permitReport_lane ..

/-- A change of activity reaches no block outside the evaluation's lane. -/
theorem takeActivity_lane (new : Vector Bool 24) (withPermit : Bool) (changed : Option (Fin 24)) (s : State) :
    EffectLane s (takeActivity new withPermit changed s) := by
  have sounds : EffectLane s (allEntries.foldl (soundChange s.fe.active new) s) :=
    .foldl (soundChange_lane s.fe.active new) ..
  have judge : ∀ t, LightLane t (allOutputs.foldl (judgeOutput changed) t) := fun t => .foldl (judgeOutput_lane changed) ..
  unfold takeActivity; dsimp only
  refine .trans (.trans (.trans (.trans sounds (.modFe ..)) (quietReports_lane _))
    ((judge _).trans (refreshLights_lane _)).toEffectLane) (cueReports_lane ..)

/-- A map evaluation reaches no block outside its lane. -/
theorem evaluateAfter_lane (changed : Option (Fin 24)) (s : State) : EffectLane s (evaluateAfter changed s) := by
  unfold evaluateAfter; exact takeActivity_lane ..

theorem evaluateMap_lane (s : State) : EffectLane s (evaluateMap s) := evaluateAfter_lane none s

theorem retireEntry_lane (e : Fin 24) (s : State) : EffectLane s (retireEntry e s) := by
  unfold retireEntry; split
  · exact takeActivity_lane ..
  · exact .refl _

theorem tickRunning_lane (k : Fin 8) (p : Nat) (s : State) : LightLane s (tickRunning k p s) := by
  unfold tickRunning; dsimp only
  generalize (if period s p ≤ s.fe.gens[k].q + 1 then 0 else s.fe.gens[k].q + 1) = q
  split
  · exact setGen_lane ..
  · split
    · exact setGen_lane ..
    · split
      · split
        · exact .trans (setGen_lane ..) (flickerForm_lane ..)
        · exact .trans (setGen_lane ..) (setGen_lane ..)
      · exact setGen_lane ..

theorem tickFading_lane (k : Fin 8) (p : Nat) (s : State) : LightLane s (tickFading k p s) := by
  unfold tickFading; dsimp only; repeat' split
  all_goals with_reducible first | exact setGen_lane .. | exact (setGen_lane ..).trans (giveToWinner_lane ..)

theorem tickGen_lane (s : State) (k : Fin 8) : LightLane s (tickGen s k) := by
  unfold tickGen; dsimp only; repeat' split
  all_goals with_reducible first | exact .refl _ | exact tickRunning_lane .. | exact tickFading_lane ..

theorem effectsTick_lane (s : State) : EffectLane s (effectsTick s) := by
  unfold effectsTick; split
  · exact (smokeTick_lane _).toEffectLane
  · have tick : LightLane s (allOutputs.foldl tickGen s) := .foldl tickGen_lane ..
    exact .trans (tick.trans (refreshLights_lane _)).toEffectLane (smokeTick_lane _).toEffectLane

theorem flickerUpdate_lane (k : Fin 8) (s : State) : LightLane s (flickerUpdate k s) := by
  unfold flickerUpdate; dsimp only; repeat' split
  all_goals with_reducible first | exact .refl _ | exact (flickerForm_lane ..).trans (refreshLights_lane _)

theorem fadeOutEnd_lane (k : Fin 8) (s : State) : LightLane s (fadeOutEnd k s) := by
  unfold fadeOutEnd; dsimp only; split
  · exact (giveToWinner_lane ..).trans (refreshLights_lane _)
  · exact .refl _

theorem oneShotDone_lane (k : Fin 8) (s : State) : LightLane s (oneShotDone k s) := by
  unfold oneShotDone; dsimp only; repeat' split
  all_goals with_reducible first | exact .refl _ | exact (setGen_lane ..).trans (refreshLights_lane _)

theorem profileOutput_lane (p : Nat) (s : State) (k : Fin 8) : LightLane s (profileOutput p s k) := by
  unfold profileOutput; dsimp only; repeat' split
  all_goals with_reducible first | exact .refl _ | exact restartGen_lane ..

theorem waveformChange_lane (p : Nat) (s : State) : LightLane s (waveformChange p s) := by
  unfold waveformChange
  exact .trans (.foldl (profileOutput_lane p) ..) (refreshLights_lane _)

end Sys2Proof.Machine
end

