-- ==== Sys2Proof/Laws/TargetLaws.lean ====
section
/-! SUPPORT. T_eff: what the effective target depends on, and which operations keep it current (R2). What forming the lights
anew leaves (R83, R84). -/

namespace Sys2Proof.Machine

/-- The settings that T_eff depends on: the trims and the Speed Curve points (R2). -/
def curveIndex (i : Nat) : Prop := i = 8 ∨ i = 9 ∨ (64 ≤ i ∧ i ≤ 78)

/-- Everything that T_eff depends on (R2). -/
structure SameTargetInputs (s t : State) : Prop where
  target : t.ct.target = s.ct.target
  requested : t.ct.requested = s.ct.requested
  held : t.ct.latch.held = s.ct.latch.held
  fault : t.ml.fault = s.ml.fault
  permit : t.slu.permit = s.slu.permit
  travel : t.slu.travel = s.slu.travel
  moving : (0 < t.slu.r) = (0 < s.slu.r)
  shunt : t.fe.shunt = s.fe.shunt
  curve : ∀ i, curveIndex i → setting t i = setting s i

theorem trim_congr {s t : State} (h : SameTargetInputs s t) : trim t = trim s := by
  unfold trim
  rw [h.requested, h.curve 8 (by simp [curveIndex]), h.curve 9 (by simp [curveIndex])]

theorem curveValue_congr {s t : State} (h : SameTargetInputs s t) {n : Nat} (hn : n ≤ 112) :
    curveValue t n = curveValue s n := by
  have point : ∀ k, k ≤ 14 → curvePoint t k = curvePoint s k := fun k hk =>
    h.curve _ (by simp [curveIndex]; omega)
  unfold curveValue
  by_cases hk : n / 8 = 14
  · simp [hk, point 14 (by omega)]
  · simp [hk, point (n / 8) (by omega), point (n / 8 + 1) (by omega)]

/-- States with equal inputs have equal effective targets. -/
theorem effectiveTarget_congr {s t : State} (h : SameTargetInputs s t) (hs : s.ct.target ≤ 112) :
    effectiveTarget t = effectiveTarget s := by
  have moving : decide (0 < t.slu.r) = decide (0 < s.slu.r) := by simp only [h.moving]
  unfold effectiveTarget forcedToZero reversalPending modifiedValue trimmedValue
  rw [h.target, h.requested, h.held, h.fault, h.permit, h.travel, h.shunt, trim_congr h,
    curveValue_congr h hs, moving]

/-- The effective target never exceeds 1023 SU (R4, R5, R6). -/
theorem effectiveTarget_le (s : State) : effectiveTarget s ≤ 1023 := by
  unfold effectiveTarget modifiedValue trimmedValue
  repeat' split
  all_goals omega

/-- A condition of R6 makes the effective target 0. -/
theorem effectiveTarget_zero {s : State} (h : forcedToZero s = true) : effectiveTarget s = 0 := by
  simp [effectiveTarget, h]

/-- A held Stop latch makes the effective target 0 (R6, R16). -/
theorem effectiveTarget_held {s : State} (h : s.ct.latch.held = true) : effectiveTarget s = 0 :=
  effectiveTarget_zero (by simp [forcedToZero, h])

/-- T_eff stays current where neither it nor its inputs change. -/
theorem TargetCurrent.congr {s t : State} (cur : TargetCurrent s) (hs : s.ct.target ≤ 112) (same : SameTargetInputs s t)
    (keep : t.slu.tEff = s.slu.tEff) : TargetCurrent t := by
  unfold TargetCurrent
  rw [keep, effectiveTarget_congr same hs]
  exact cur

/-- Recomputing makes T_eff current (R2). -/
theorem recompute_current (s : State) : TargetCurrent (recompute s) := rfl

/-- Operations that leave these blocks alone keep T_eff current. -/
theorem TargetCurrent.blocks {s t : State} (cur : TargetCurrent s) (slu : t.slu = s.slu) (ml : t.ml = s.ml)
    (ct : t.ct = s.ct) (shunt : t.fe.shunt = s.fe.shunt) (ss : t.ss = s.ss) : TargetCurrent t := by
  have same : effectiveTarget t = effectiveTarget s := by
    unfold effectiveTarget forcedToZero reversalPending modifiedValue trimmedValue trim curveValue curvePoint setting
    rw [slu, ml, ct, shunt, ss]
  unfold TargetCurrent
  rw [slu, same]
  exact cur

theorem TargetCurrent.modFe {s : State} (cur : TargetCurrent s) (g : Fe → Fe)
    (shunt : ∀ b, (g b).shunt = b.shunt := by intro _; rfl) : TargetCurrent (s.modFe g) :=
  cur.blocks rfl rfl rfl (shunt _) rfl

theorem SmokeLane.target {s t : State} (h : SmokeLane s t) (cur : TargetCurrent s) : TargetCurrent t :=
  cur.blocks h.slu h.ml h.ct (by rw [h.fe]) h.ss

theorem SoundLane.target {s t : State} (h : SoundLane s t) (cur : TargetCurrent s) : TargetCurrent t :=
  h.toSmokeLane.target cur

theorem LightLane.target {s t : State} (h : LightLane s t) (cur : TargetCurrent s) : TargetCurrent t :=
  cur.blocks h.slu h.ml h.ct h.fe_shunt h.ss

theorem RadioLane.target {s t : State} (h : RadioLane s t) (cur : TargetCurrent s) : TargetCurrent t :=
  cur.blocks h.slu h.ml h.ct (by rw [h.fe]) h.ss

theorem LinkLane.target {s t : State} (h : LinkLane s t) (cur : TargetCurrent s) : TargetCurrent t :=
  cur.blocks h.slu h.ml h.ct (by rw [h.fe]) h.ss

theorem holdOffExpiry_current {s : State} (cur : TargetCurrent s) : TargetCurrent (holdOffExpiry s) := by
  unfold holdOffExpiry holdOffExpire; split
  · exact recompute_current _
  · exact cur

theorem permitReport_current (old required granted : Bool) {s : State} (cur : TargetCurrent s) :
    TargetCurrent (permitReport old required granted s) := by
  unfold permitReport permitGrant permitWithdraw permitSettle
  split
  · split
    · exact cur
    · exact holdOffExpiry_current (recompute_current _)
  · split
    · split <;> exact recompute_current _
    · exact recompute_current _

theorem quietReports_current {s : State} (cur : TargetCurrent s) : TargetCurrent (quietReports s) := by
  unfold quietReports
  refine (dimmerReport_lane ..).target ?_
  unfold shuntReport; split
  · next h => exact cur.blocks rfl rfl rfl h rfl
  · exact recompute_current _

theorem cueReports_current (withPermit : Bool) {s : State} (cur : TargetCurrent s) :
    TargetCurrent (cueReports withPermit s) := by
  unfold cueReports; dsimp only
  refine anyOrder_keeps (cur.blocks rfl rfl rfl rfl rfl) ?_ (fun _ _ h => h.blocks rfl rfl rfl rfl rfl)
  intro f hf u hu
  simp only [List.mem_append, mem_noticeIf] at hf
  rcases hf with (⟨-, rfl⟩ | ⟨-, rfl⟩) | ⟨-, rfl⟩
  · exact (raiseCue_lane ..).target hu
  · exact (smokeEnableReport_lane ..).target hu
  · exact permitReport_current _ _ _ hu

theorem sounds_lane (old new : Vector Bool 24) :
    ∀ (l : List (Fin 24)) (s : State), SoundLane s (l.foldl (soundChange old new) s) :=
  SoundLane.foldl fun s e => by
    unfold soundChange; repeat' split
    all_goals with_reducible first
      | exact .refl _
      | exact raiseDirect_lane ..
      | exact releaseEntry_lane ..

/-- A change of activity keeps T_eff current. -/
theorem takeActivity_current (new : Vector Bool 24) (withPermit : Bool) (changed : Option (Fin 24)) {s : State}
    (cur : TargetCurrent s) : TargetCurrent (takeActivity new withPermit changed s) := by
  have sounds := (sounds_lane s.fe.active new allEntries s).target cur
  have judge : ∀ t, LightLane t (allOutputs.foldl (judgeOutput changed) t) := fun t => .foldl (judgeOutput_lane changed) ..
  unfold takeActivity; dsimp only
  refine cueReports_current _ ((refreshLights_lane _).target ((judge _).target (quietReports_current ?_)))
  exact sounds.modFe _

/-- A map evaluation keeps T_eff current. -/
theorem evaluateAfter_current (changed : Option (Fin 24)) {s : State} (cur : TargetCurrent s) :
    TargetCurrent (evaluateAfter changed s) := takeActivity_current _ _ _ cur

theorem evaluateMap_current {s : State} (cur : TargetCurrent s) : TargetCurrent (evaluateMap s) :=
  evaluateAfter_current none cur

/-! ### The lights -/

theorem finalBrightness_eq (s : State) (value : Nat) :
    finalBrightness s value =
      if s.ps.outputsOff then 0
      else if decide (s.ps.power ≠ .normal ∧ s.ps.power ≠ .bridging) then value / 2 else value := by
  unfold finalBrightness
  cases s.ps.power <;> rfl

/-- Forming the lights anew changes the Function Mapper's record alone, to that of R83 and R84. -/
theorem refreshLights_eq (s : State) :
    refreshLights s = { s with fe := litFe (decide (s.ps.power ≠ .normal ∧ s.ps.power ≠ .bridging)) s } := by
  simp only [refreshLights, State.modFe, litGens, litFe, lightSum, finalBrightness_eq]
  simp [allOutputs]

/-- After it every brightness and the light current estimate are current. -/
theorem refreshLights_current (s : State) : LightsCurrent (refreshLights s) := by
  rw [refreshLights_eq]
  simp [LightsCurrent, litFe, Function.comp_def, setting]
end Sys2Proof.Machine
end

