-- ==== Sys2Proof/Laws/TableLaws.lean ====
section
/-! SUPPORT. The Control Table's own operations: their lanes, and that they keep the motion promises. -/

namespace Sys2Proof.Machine

/-! ### Keeping the motion promises

`MotionKept b` is `MotionSafe` with the promise of the duty under a held Stop latch only where `b` is true: between the
first cause of the latch and the Motor Loop's notice of it the duty still stands. -/

/-- While the Stop latch holds any cause, the target step and R are 0, and with `b` the motor duty too. -/
def HeldStill (b : Bool) (s : State) : Prop :=
  s.ct.latch.held = true → s.ct.target = 0 ∧ s.slu.r = 0 ∧ (b = true → s.ml.d = 0)

/-- The motion promises, with or without the duty under a held latch. -/
structure MotionKept (b : Bool) (s : State) : Prop where
  reach : s.ct.target ≤ 112
  current : TargetCurrent s
  still : HeldStill b s
  undriven : UndrivenIsOff s
  turned : StandsTurned s

theorem MotionKept.motionSafe {s : State} (h : MotionKept true s) : MotionSafe s :=
  ⟨h.reach, h.current, fun held => ⟨(h.still held).1, (h.still held).2.1, (h.still held).2.2 rfl⟩, h.undriven, h.turned⟩

theorem MotionSafe.kept {s : State} (h : MotionSafe s) : MotionKept true s :=
  ⟨h.reach, h.current, fun held => ⟨(h.still held).1, (h.still held).2.1, fun _ => (h.still held).2.2⟩, h.undriven,
    h.turned⟩

variable {b : Bool}

/-- The motion promises hold where T_eff is current and what they speak of has not changed. -/
theorem MotionKept.same {s t : State} (h : MotionKept b s) (cur : TargetCurrent t) (target : t.ct.target = s.ct.target)
    (requested : t.ct.requested = s.ct.requested) (latch : t.ct.latch = s.ct.latch) (r : t.slu.r = s.slu.r)
    (travel : t.slu.travel = s.slu.travel) (ml : t.ml = s.ml) : MotionKept b t where
  reach := by rw [target]; exact h.reach
  current := cur
  still := by unfold HeldStill; rw [target, latch, r, ml]; exact h.still
  undriven := by unfold UndrivenIsOff; rw [ml]; exact h.undriven
  turned := by unfold StandsTurned; rw [r, travel, requested]; exact h.turned

theorem EffectLane.safe {s t : State} (l : EffectLane s t) (cur : TargetCurrent t) (h : MotionKept b s) :
    MotionKept b t :=
  h.same cur (by rw [l.ct]) (by rw [l.ct]) (by rw [l.ct]) l.slu_r l.slu_travel l.ml

theorem SmokeLane.safe {s t : State} (l : SmokeLane s t) (h : MotionKept b s) : MotionKept b t :=
  l.toEffectLane.safe (l.target h.current) h

theorem SoundLane.safe {s t : State} (l : SoundLane s t) (h : MotionKept b s) : MotionKept b t := l.toSmokeLane.safe h

theorem LightLane.safe {s t : State} (l : LightLane s t) (h : MotionKept b s) : MotionKept b t :=
  l.toEffectLane.safe (l.target h.current) h

theorem LinkLane.safe {s t : State} (l : LinkLane s t) (h : MotionKept b s) : MotionKept b t :=
  h.same (l.target h.current) (by rw [l.ct]) (by rw [l.ct]) (by rw [l.ct]) (by rw [l.slu]) (by rw [l.slu]) l.ml

theorem RadioLane.safe {s t : State} (l : RadioLane s t) (h : MotionKept b s) : MotionKept b t := l.toLinkLane.safe h

/-- What holds of the motion promises while T_eff waits to be recomputed. -/
structure MotionRest (b : Bool) (s : State) : Prop where
  reach : s.ct.target ≤ 112
  still : HeldStill b s
  undriven : UndrivenIsOff s
  turned : StandsTurned s

theorem MotionKept.rest {s : State} (h : MotionKept b s) : MotionRest b s := ⟨h.reach, h.still, h.undriven, h.turned⟩

theorem MotionRest.safe {s : State} (h : MotionRest b s) (cur : TargetCurrent s) : MotionKept b s :=
  ⟨h.reach, cur, h.still, h.undriven, h.turned⟩

/-- Recomputing T_eff completes the motion promises. -/
theorem recompute_safe {s : State} (h : MotionRest b s) : MotionKept b (recompute s) :=
  ⟨h.reach, rfl, h.still, h.undriven, h.turned⟩

theorem evaluateAfter_safe (changed : Option (Fin 24)) {s : State} (h : MotionKept b s) :
    MotionKept b (evaluateAfter changed s) :=
  (evaluateAfter_lane changed s).safe (evaluateAfter_current changed h.current) h

theorem evaluateMap_safe {s : State} (h : MotionKept b s) : MotionKept b (evaluateMap s) := evaluateAfter_safe none h

theorem holdOffExpiry_safe {s : State} (h : MotionKept b s) : MotionKept b (holdOffExpiry s) :=
  (holdOffExpiry_lane s).safe (holdOffExpiry_current h.current) h

/-- A change of the Control Table that leaves target, requested direction and latch keeps the motion promises. -/
theorem MotionKept.modCt {s : State} (h : MotionKept b s) (g : Ct → Ct)
    (target : ∀ c, (g c).target = c.target := by intro _; rfl)
    (requested : ∀ c, (g c).requested = c.requested := by intro _; rfl)
    (latch : ∀ c, (g c).latch = c.latch := by intro _; rfl) : MotionKept b (s.modCt g) := by
  refine h.same (h.current.congr h.reach ⟨target _, requested _, ?_, rfl, rfl, rfl, rfl, rfl, fun _ _ => rfl⟩ rfl)
    (target _) (requested _) (latch _) rfl rfl rfl
  exact congrArg StopLatch.held (latch s.ct)

/-! ### Functions -/

theorem setFunction_lane (n : Fin 32) (on : Bool) (s : State) : TableLane s (setFunction n on s) := by
  unfold setFunction; split
  · exact .refl _
  · exact .trans (.modCt _ _) (evaluateMap_lane _).toTableLane

theorem setFunction_safe (n : Fin 32) (on : Bool) {s : State} (h : MotionKept b s) : MotionKept b (setFunction n on s) := by
  unfold setFunction; split
  · exact h
  · exact evaluateMap_safe (h.modCt _)

theorem momentaryStep_lane (s : State) (n : Fin 32) :
    TableLane s (if isMomentary s n.val then setFunction n false s else s) := by
  split
  · exact setFunction_lane ..
  · exact .refl _

theorem momentaryOff_lane (s : State) : TableLane s (momentaryOff s) := by
  unfold momentaryOff; exact .foldl momentaryStep_lane ..

theorem foldl_safe {α : Type} {f : State → α → State} (h : ∀ s a, MotionKept b s → MotionKept b (f s a)) :
    ∀ (l : List α) (s : State), MotionKept b s → MotionKept b (l.foldl f s)
  | [], _, hs => hs
  | a :: l, s, hs => foldl_safe h l (f s a) (h s a hs)

theorem momentaryOff_safe {s : State} (h : MotionKept b s) : MotionKept b (momentaryOff s) := by
  unfold momentaryOff
  refine foldl_safe (fun s n hs => ?_) _ _ h
  split
  · exact setFunction_safe _ _ hs
  · exact hs

/-! ### Entries and the Driver -/

theorem hear_lane (id : Nat) (s : State) : TableLane s (hear id s) := .modCt _ _

theorem hear_safe (id : Nat) {s : State} (h : MotionKept b s) : MotionKept b (hear id s) := h.modCt _

theorem watcherAgeOut_lane (s : State) : TableLane s (watcherAgeOut s) := .modCt _ _

theorem watcherAgeOut_safe {s : State} (h : MotionKept b s) : MotionKept b (watcherAgeOut s) := h.modCt _

theorem setRole_lane (id : Nat) (role : Role) (s : State) : TableLane s (setRole id role s) := .modCt _ _

theorem setRole_safe (id : Nat) (role : Role) {s : State} (h : MotionKept b s) : MotionKept b (setRole id role s) :=
  h.modCt _

theorem demoteDriver_lane (s : State) : TableLane s (demoteDriver s) := .modCt _ _

theorem demoteDriver_safe {s : State} (h : MotionKept b s) : MotionKept b (demoteDriver s) := h.modCt _

theorem markLost_lane (s : State) : TableLane s (markLost s) := .modCt _ _

theorem markLost_safe {s : State} (h : MotionKept b s) : MotionKept b (markLost s) := h.modCt _

theorem tellDisplaced_lane (old : Option Entry) (s : State) : RadioLane s (tellDisplaced old s) := by
  unfold tellDisplaced; split
  · exact queueReply_lane ..
  · exact .refl _

theorem takeOver_lane (id : Nat) (scope : Scope) (s : State) : TableLane s (takeOver id scope s) :=
  .trans (demoteDriver_lane _) (setRole_lane ..)

theorem dropDriver_lane (s : State) : TableLane s (dropDriver s) := by
  unfold dropDriver; split
  · exact .trans (.trans (.trans (demoteDriver_lane _) (tellDisplaced_lane ..).toTableLane) (momentaryOff_lane _))
      (telemetryStop_lane _).toTableLane
  · exact .refl _

theorem dropDriver_safe {s : State} (h : MotionKept b s) : MotionKept b (dropDriver s) := by
  unfold dropDriver; split
  · exact (telemetryStop_lane _).safe (momentaryOff_safe ((tellDisplaced_lane ..).safe (demoteDriver_safe h)))
  · exact h

/-- A throttle's becoming the DRIVER touches neither the target, the requested direction, the latch, nor R. -/
theorem becomeDriver_lane (id : Nat) (scope : Scope) (s : State) : TableLane s (becomeDriver id scope s) := by
  have cue : ∀ t, TableLane t (raiseCue .claimed none t) := fun t =>
    (raiseCue_lane ..).toSmokeLane.toEffectLane.toTableLane
  unfold becomeDriver
  exact .trans (.trans (.trans (.trans (takeOver_lane ..) (tellDisplaced_lane ..).toTableLane) (momentaryOff_lane _))
    (cue _)) (telemetryStart_lane _).toTableLane

theorem becomeDriver_safe (id : Nat) (scope : Scope) {s : State} (h : MotionKept b s) :
    MotionKept b (becomeDriver id scope s) := by
  unfold becomeDriver
  exact (telemetryStart_lane _).safe
    ((raiseCue_lane ..).safe (momentaryOff_safe ((tellDisplaced_lane ..).safe (setRole_safe _ _ (demoteDriver_safe h)))))

theorem setTarget_lane (n : Nat) (s : State) : TableLane s (setTarget n s) := by
  unfold setTarget; exact .trans (.modCt _ _) (recompute_lane _).toTableLane

/-- A new target of 0..112 keeps the motion promises, if it is 0 while the Stop latch holds a cause. -/
theorem setTarget_safe {n : Nat} {s : State} (h : MotionRest b s) (le : n ≤ 112)
    (zero : s.ct.latch.held = true → n = 0) : MotionKept b (setTarget n s) := by
  unfold setTarget
  refine recompute_safe ⟨le, fun held => ?_, h.undriven, h.turned⟩
  exact ⟨zero held, (h.still held).2.1, (h.still held).2.2⟩

theorem setTarget_zero_safe {s : State} (h : MotionKept b s) : MotionKept b (setTarget 0 s) :=
  setTarget_safe h.rest (by omega) (fun _ => rfl)

theorem dropMoved_lane (oldLoco oldConsist : Nat) (s : State) : TableLane s (dropMoved oldLoco oldConsist s) := by
  unfold dropMoved; split
  · exact dropDriver_lane _
  · exact .refl _

theorem clearTarget_lane (oldConsist : Nat) (s : State) : TableLane s (clearTarget oldConsist s) := by
  unfold clearTarget; split
  · exact setTarget_lane ..
  · exact .refl _

theorem roleReport_lane (oldRole : ConsistRole) (s : State) : TableLane s (roleReport oldRole s) := by
  unfold roleReport; split
  · exact .refl _
  · exact (evaluateMap_lane _).toTableLane

theorem addressChange_lane (oldLoco oldConsist : Nat) (oldRole : ConsistRole) (s : State) :
    TableLane s (addressChange oldLoco oldConsist oldRole s) := by
  unfold addressChange
  exact .trans (.trans (dropMoved_lane ..) (clearTarget_lane ..)) (roleReport_lane ..)

theorem addressChange_safe (oldLoco oldConsist : Nat) (oldRole : ConsistRole) {s : State} (h : MotionKept b s) :
    MotionKept b (addressChange oldLoco oldConsist oldRole s) := by
  have drop : MotionKept b (dropMoved oldLoco oldConsist s) := by
    unfold dropMoved; split
    · exact dropDriver_safe h
    · exact h
  have clear : MotionKept b (clearTarget oldConsist (dropMoved oldLoco oldConsist s)) := by
    unfold clearTarget; split
    · exact setTarget_zero_safe drop
    · exact drop
  unfold addressChange roleReport; split
  · exact clear
  · exact evaluateMap_safe clear

end Sys2Proof.Machine
end

