-- ==== Sys2Proof/Laws/SettingLaws.lean ====
section
/-! SUPPORT. The nonvolatile writes and the application of settings: their lanes, and that they keep the motion
promises. -/

namespace Sys2Proof.Machine

variable {b : Bool}

/-! ### Nonvolatile writes -/

theorem WriteLane.target {s t : State} (l : WriteLane s t) (h : MotionKept b s) : TargetCurrent t :=
  h.current.congr h.reach
    ⟨by rw [l.ct], by rw [l.ct], by rw [l.ct], by rw [l.ml], by rw [l.slu], by rw [l.slu], by rw [l.slu], by rw [l.fe],
      fun i _ => by unfold setting; rw [l.ss_working]⟩ (by rw [l.slu])

/-- Nonvolatile writes keep the motion promises. -/
theorem WriteLane.safe {s t : State} (l : WriteLane s t) (h : MotionKept b s) : MotionKept b t :=
  h.same (l.target h) (by rw [l.ct]) (by rw [l.ct]) (by rw [l.ct]) (by rw [l.slu]) (by rw [l.slu]) l.ml

theorem QueueLane.safe {s t : State} (l : QueueLane s t) (h : MotionKept b s) : MotionKept b t := l.toWriteLane.safe h

theorem beginWrite_lane (purpose : NvPurpose) (job : NvJob) (s : State) : QueueLane s (beginWrite purpose job s) :=
  .modNv ..

theorem beginPersist_lane (purpose : NvPurpose) (i : Nat) (s : State) : QueueLane s (beginPersist purpose i s) := by
  unfold beginPersist; exact .trans (.modSs _ _) (beginWrite_lane ..)

theorem beginOdometer_lane (purpose : NvPurpose) (s : State) : QueueLane s (beginOdometer purpose s) :=
  beginWrite_lane ..

/-- The next write touches nothing but the write in transfer, the queue and the save stage. -/
theorem nextWrite_lane (s : State) : QueueLane s (nextWrite s) := by
  unfold nextWrite; repeat' split
  all_goals with_reducible first
    | exact .refl _
    | exact beginPersist_lane ..
    | exact beginOdometer_lane ..
    | exact beginWrite_lane ..
    | exact .trans (.modPs _ _) (beginOdometer_lane ..)

theorem landWrite_lane (job : NvJob) (s : State) : WriteLane s (landWrite job s) := .modNv ..

theorem persistLanded_lane (job : NvJob) (s : State) : WriteLane s (persistLanded job s) := by
  unfold persistLanded; split
  · exact .modSs _ _
  all_goals exact .refl _

theorem persistWriteDone_lane (s : State) : WriteLane s (persistWriteDone s) := by
  unfold persistWriteDone; split
  · exact .trans (.trans (landWrite_lane ..) (persistLanded_lane ..)) (nextWrite_lane _).toWriteLane
  all_goals exact .refl _

theorem rewriteAdvance_lane (s : State) : WriteLane s (rewriteAdvance s) := by
  unfold rewriteAdvance; repeat' split
  · exact .refl _
  · exact .modSs _ _
  · unfold rewriteEnded; exact .trans (.modSs _ _) (.modPs _ _)

theorem rewriteWriteDone_lane (s : State) : WriteLane s (rewriteWriteDone s) := by
  unfold rewriteWriteDone; split
  · exact .trans (.trans (landWrite_lane ..) (rewriteAdvance_lane _)) (nextWrite_lane _).toWriteLane
  all_goals exact .refl _

/-! ### The working copy -/

theorem setting_store_ne {i v j : Nat} {s : State} (h : j ≠ i) : setting (storeSetting i v s) j = setting s j :=
  Store.read_write_ne h

theorem storeSetting_lane (i v : Nat) (s : State) : SettingLane s (storeSetting i v s) := .modSs ..

/-- A setting that T_eff does not depend on leaves the motion promises as they are (R2). -/
theorem storeSetting_safe {i v : Nat} {s : State} (h : MotionKept b s) (hi : ¬ curveIndex i) :
    MotionKept b (storeSetting i v s) := by
  refine h.same (h.current.congr h.reach ⟨rfl, rfl, rfl, rfl, rfl, rfl, rfl, rfl, fun j hj => ?_⟩ rfl)
    rfl rfl rfl rfl rfl rfl
  exact setting_store_ne (fun e => hi (e ▸ hj))

theorem storeSetting_rest {i v : Nat} {s : State} (h : MotionRest b s) : MotionRest b (storeSetting i v s) :=
  ⟨h.reach, h.still, h.undriven, h.turned⟩

/-! ### The owners -/

/-- The Motion Tracker's own changes keep the motion promises. -/
theorem MotionKept.modMt {s : State} (h : MotionKept b s) (g : Mt → Mt) : MotionKept b (s.modMt g) :=
  h.same (h.current.blocks rfl rfl rfl rfl rfl) rfl rfl rfl rfl rfl rfl

theorem kindChange_lane (n : Nat) (s : State) : TableLane s (kindChange n s) := by
  unfold kindChange; repeat' split
  all_goals with_reducible first | exact .refl _ | exact setFunction_lane ..

theorem kindChange_safe (n : Nat) {s : State} (h : MotionKept b s) : MotionKept b (kindChange n s) := by
  unfold kindChange; repeat' split
  all_goals with_reducible first | exact h | exact setFunction_safe _ _ h

theorem SettingLane.ite {c : Prop} [Decidable c] {s a b : State} (ha : SettingLane s a) (hb : SettingLane s b) :
    SettingLane s (if c then a else b) := by
  split
  · exact ha
  · exact hb

theorem MotionKept.ite {c : Prop} [Decidable c] {x y : State} (hx : MotionKept b x) (hy : MotionKept b y) :
    MotionKept b (if c then x else y) := by
  split
  · exact hx
  · exact hy

theorem quantumChange_lane (s : State) : SettingLane s (quantumChange s) := by
  unfold quantumChange; exact .ite (.modMt ..) (.refl _)

theorem chuffsChange_lane (s : State) : SettingLane s (chuffsChange s) := by
  unfold chuffsChange; exact .ite (.modMt ..) (.refl _)

theorem sourceChange_lane (s : State) : SettingLane s (sourceChange s) := .modMt ..

theorem ownerActs_lane (i oldLoco oldConsist : Nat) (oldRole : ConsistRole) (changed : Option (Fin 24)) (s : State) :
    SettingLane s (ownerActs i oldLoco oldConsist oldRole changed s) := by
  unfold ownerActs
  exact .ite (addressChange_lane ..).toSettingLane <| .ite (recompute_lane _).toTableLane.toSettingLane <|
    .ite (holdOffExpiry_lane _).toTableLane.toSettingLane <| .ite (quantumChange_lane _) <| .ite (chuffsChange_lane _) <|
    .ite (sourceChange_lane _) <| .ite (smokeTypeChange_lane _).toEffectLane.toTableLane.toSettingLane <|
    .ite (refreshLights_lane _).toEffectLane.toTableLane.toSettingLane <|
    .ite (formHeater_lane _).toEffectLane.toTableLane.toSettingLane <|
    .ite (formFan_lane _).toEffectLane.toTableLane.toSettingLane <| .ite (telemetryChange_lane _).toTableLane.toSettingLane <|
    .ite (kindChange_lane ..).toSettingLane <| .ite (waveformChange_lane ..).toEffectLane.toTableLane.toSettingLane <|
    .ite (evaluateAfter_lane ..).toTableLane.toSettingLane (.refl _)

/-- The owner's action keeps the motion promises, and completes them after a curve point or trim was stored. -/
theorem ownerActs_safe (i oldLoco oldConsist : Nat) (oldRole : ConsistRole) (changed : Option (Fin 24)) {s : State}
    (rest : MotionRest b s) (safe : ¬ curveIndex i → MotionKept b s) :
    MotionKept b (ownerActs i oldLoco oldConsist oldRole changed s) := by
  unfold ownerActs
  by_cases hc : curveIndex i
  · have h1 : ¬ (i = 1 ∨ i = 2 ∨ i = 3) := by unfold curveIndex at hc; omega
    have h2 : i = 8 ∨ i = 9 ∨ (64 ≤ i ∧ i ≤ 78) := hc
    rw [if_neg h1, if_pos h2]
    exact recompute_safe rest
  · have h := safe hc
    exact .ite (addressChange_safe _ _ _ h) <| .ite (recompute_safe rest) <| .ite (holdOffExpiry_safe h) <|
      .ite (.ite (h.modMt _) h) <| .ite (.ite (h.modMt _) h) <| .ite (h.modMt _) <|
      .ite ((smokeTypeChange_lane _).safe h) <| .ite ((refreshLights_lane _).safe h) <|
      .ite ((formHeater_lane _).safe h) <| .ite ((formFan_lane _).safe h) <| .ite ((telemetryChange_lane _).safe h) <|
      .ite (kindChange_safe _ h) <| .ite ((waveformChange_lane _ _).safe h) <| .ite (evaluateAfter_safe _ h) h

theorem beforeChange_lane (i : Nat) (s : State) : EffectLane s (beforeChange i s) := by
  unfold beforeChange; split
  · exact retireEntry_lane ..
  · exact .refl _

theorem beforeChange_safe (i : Nat) {s : State} (h : MotionKept b s) : MotionKept b (beforeChange i s) := by
  refine (beforeChange_lane i s).safe ?_ h
  unfold beforeChange retireEntry; repeat' split
  · exact takeActivity_current _ _ _ h.current
  · exact h.current
  · exact h.current

theorem changeSetting_lane (i v : Nat) (s : State) : SettingLane s (changeSetting i v s) := by
  unfold changeSetting; split
  · exact .refl _
  · exact .trans (.trans (beforeChange_lane ..).toTableLane.toSettingLane (storeSetting_lane ..)) (ownerActs_lane ..)

/-- A changed setting keeps the motion promises (R2). -/
theorem changeSetting_safe (i v : Nat) {s : State} (h : MotionKept b s) : MotionKept b (changeSetting i v s) := by
  unfold changeSetting; split
  · exact h
  · have before := beforeChange_safe i h
    exact ownerActs_safe _ _ _ _ _ (storeSetting_rest before.rest) (fun hc => storeSetting_safe before hc)

theorem persist_lane (i : Nat) (s : State) : QueueLane s (persist i s) := by
  unfold persist; exact .trans (.modSs _ _) (nextWrite_lane _)

theorem applySetting_lane (i v : Nat) (s : State) : SettingLane s (applySetting i v s) := by
  unfold applySetting; exact .trans (changeSetting_lane ..) (persist_lane ..).toSettingLane

/-- An application keeps the motion promises. -/
theorem applySetting_safe (i v : Nat) {s : State} (h : MotionKept b s) : MotionKept b (applySetting i v s) :=
  (persist_lane ..).safe (changeSetting_safe i v h)

theorem applyDeferred_lane (s : State) : SettingLane s (applyDeferred s) := by
  unfold applyDeferred applyAll
  exact .trans (.modSs ..) (.foldl (fun s (e : Nat × Nat) => applySetting_lane e.1 e.2 s) ..)

/-- The application of the Deferred List keeps the motion promises. -/
theorem applyDeferred_safe {s : State} (h : MotionKept b s) : MotionKept b (applyDeferred s) := by
  unfold applyDeferred applyAll
  exact foldl_safe (fun s (e : Nat × Nat) hs => applySetting_safe e.1 e.2 hs) _ _ ((WriteLane.modSs s _).safe h)

theorem applyConsist_lane (address form : Nat) (s : State) : SettingLane s (applyConsist address form s) := by
  unfold applyConsist
  refine .trans (.trans (.trans (.trans (storeSetting_lane ..) (storeSetting_lane ..)) (addressChange_lane ..).toSettingLane)
    (persist_lane ..).toSettingLane) (persist_lane ..).toSettingLane

theorem applyConsist_safe (address form : Nat) {s : State} (h : MotionKept b s) :
    MotionKept b (applyConsist address form s) := by
  unfold applyConsist
  have two : ¬ curveIndex 2 := by simp [curveIndex]
  have three : ¬ curveIndex 3 := by simp [curveIndex]
  exact (persist_lane ..).safe ((persist_lane ..).safe
    (addressChange_safe _ _ _ (storeSetting_safe (storeSetting_safe h two) three)))

/-- The header's arrival keeps the motion promises: it writes the project ID alone (R101). -/
theorem headerReadDone_safe (bytes : Vector Byte 64) {s : State} (h : MotionKept b s) :
    MotionKept b (headerReadDone bytes s) := by
  have id504 : ∀ v t, MotionKept b t → MotionKept b (storeSetting 504 v t) := fun v t ht =>
    storeSetting_safe ht (by simp [curveIndex])
  unfold headerReadDone; simp only []; repeat' split
  · exact (SoundLane.modSe s _).safe h
  · refine (allocate_lane _).safe ((SoundLane.modSe _ _).safe ((SoundLane.modSe _ _).safe (id504 _ _ ?_)))
    exact (SoundLane.modSe s _).safe h
  · exact (SoundLane.modSe _ _).safe (id504 _ _ ((SoundLane.modSe s _).safe h))
  · exact h

end Sys2Proof.Machine
end

