-- ==== Sys2Proof/Laws/MotionLaws.lean ====
section
/-! SUPPORT. The Motor Loop, the Motion Tracker, the ramp and the Stop latch keep the motion promises. -/

namespace Sys2Proof.Machine

variable {b : Bool}

/-! ### Changes of the Motor Loop -/

/-- A change of the Motor Loop that leaves its fault latch, has the duty 0 unless it drives, and never lifts a duty of 0
keeps the motion promises. -/
theorem MotionKept.modMl {s : State} (h : MotionKept b s) (g : Ml → Ml) (fault : (g s.ml).fault = s.ml.fault)
    (undriven : (g s.ml).bridge ≠ .drive → (g s.ml).d = 0) (low : s.ml.d = 0 → (g s.ml).d = 0) :
    MotionKept b (s.modMl g) where
  reach := h.reach
  current := h.current.congr h.reach ⟨rfl, rfl, rfl, fault, rfl, rfl, rfl, rfl, fun _ _ => rfl⟩ rfl
  still := fun held => ⟨(h.still held).1, (h.still held).2.1, fun hb => low ((h.still held).2.2 hb)⟩
  undriven := undriven
  turned := h.turned

/-- A change of the Motor Loop that leaves the duty 0 is followed by a computation of T_eff (R40, R41). -/
theorem MotionKept.modMl_rest {s : State} (h : MotionKept b s) (g : Ml → Ml)
    (undriven : (g s.ml).bridge ≠ .drive → (g s.ml).d = 0) (low : s.ml.d = 0 → (g s.ml).d = 0) :
    MotionRest b (s.modMl g) where
  reach := h.reach
  still := fun held => ⟨(h.still held).1, (h.still held).2.1, fun hb => low ((h.still held).2.2 hb)⟩
  undriven := undriven
  turned := h.turned

/-- The rest of the loop keeps the motion promises. -/
theorem restLoop_safe (st : BridgeState) {s : State} (h : MotionKept b s) : MotionKept b (s.modMl (restLoop st)) :=
  h.modMl _ rfl (fun _ => rfl) (fun _ => rfl)

theorem MotionKept.modScan {s : State} (h : MotionKept b s) (g : Scan → Scan) : MotionKept b (s.modScan g) :=
  h.same (h.current.blocks rfl rfl rfl rfl rfl) rfl rfl rfl rfl rfl rfl

theorem MotionKept.modPs {s : State} (h : MotionKept b s) (g : Ps → Ps) : MotionKept b (s.modPs g) :=
  h.same (h.current.blocks rfl rfl rfl rfl rfl) rfl rfl rfl rfl rfl rfl

/-! ### The gap end -/

theorem formSpeed_safe {s : State} (h : MotionKept b s) : MotionKept b (formSpeed s) :=
  (h.modScan fun c => { c with median := median3 s.scan.bemf1 s.scan.bemf2 s.scan.bemf3 }).modMl
    (fun m => { m with m := measuredSpeed s (median3 s.scan.bemf1 s.scan.bemf2 s.scan.bemf3), inGap := false })
    rfl h.undriven id

/-- With the shed cap at 0 the loop's duty is 0 (R29). -/
theorem loopDuty_shed {s : State} (h : s.ps.power = .coasting ∨ s.ps.power = .down) : loopDuty s = 0 := by
  unfold loopDuty dutyLimit shedCap clampInt
  rw [if_pos h]
  split
  · rfl
  · simp; split <;> omega

/-- The decision of a gap end keeps the motion promises (R27 to R30). -/
theorem decideBridge_safe {s : State} (h : MotionKept b s) : MotionKept b (decideBridge s) := by
  unfold decideBridge
  split
  · exact restLoop_safe _ h
  split
  · exact h.modMl _ rfl (fun _ => rfl) (fun _ => rfl)
  split
  · exact restLoop_safe _ h
  split
  · exact restLoop_safe _ h
  · next stand =>
    have moves : s.ct.latch.held ≠ true := by
      intro held
      refine stand ⟨(h.still held).2.1, ?_⟩
      rw [h.current]; exact effectiveTarget_held held
    refine ⟨h.reach, h.current.congr h.reach ⟨rfl, rfl, rfl, rfl, rfl, rfl, rfl, rfl, fun _ _ => rfl⟩ rfl,
      fun held => absurd held moves, fun hb => ?_, h.turned⟩
    have shed : s.ps.power = .coasting ∨ s.ps.power = .down := by
      by_cases hp : s.ps.power = .coasting ∨ s.ps.power = .down
      · exact hp
      · exact absurd (if_neg hp) hb
    exact loopDuty_shed shed

/-! ### Notices to the Motor Loop -/

theorem motorFirstCause_safe {s : State} (h : MotionKept b s) : MotionKept b (motorFirstCause s) := by
  unfold motorFirstCause; split
  · exact restLoop_safe _ h
  · exact restLoop_safe _ h
  · exact h
  · exact h

/-- After the Motor Loop's notice of the first cause the duty is 0 (R32). -/
theorem motorFirstCause_off {s : State} (h : MotionKept b s) : (motorFirstCause s).ml.d = 0 := by
  have := h.undriven
  unfold motorFirstCause; split <;> first | rfl | (apply this; simp_all)

theorem motorTurn_safe {s : State} (h : MotionKept b s) : MotionKept b (motorTurn s) := by
  unfold motorTurn; split
  · exact restLoop_safe _ h
  · exact h

theorem motorShed_safe {s : State} (h : MotionKept b s) : MotionKept b (motorShed s) := by
  unfold motorShed; split
  · exact h.modMl _ rfl (fun _ => rfl) (fun _ => rfl)
  · exact h

theorem motorReturn_safe {s : State} (h : MotionKept b s) : MotionKept b (motorReturn s) :=
  h.modMl _ rfl h.undriven id

theorem motorOff_safe {s : State} (h : MotionKept b s) : MotionKept b (motorOff s) :=
  h.modMl _ rfl (fun _ => rfl) (fun _ => rfl)

/-! ### Trips, limit, retry -/

theorem motorFaultSet_safe {s : State} (h : MotionKept b s) : MotionKept b (motorFaultSet s) := by
  unfold motorFaultSet
  exact (statusToDriver_lane _).safe (recompute_safe (h.modMl_rest _ (fun _ => rfl) (fun _ => rfl)))

theorem compareCurrent_safe (current : Nat) {s : State} (h : MotionKept b s) : MotionKept b (compareCurrent current s) := by
  unfold compareCurrent trip; repeat' split
  · exact motorFaultSet_safe h
  · exact h.modMl _ rfl (fun _ => rfl) (fun _ => rfl)
  · exact h

theorem adjustDcap_safe (mean : Nat) {s : State} (h : MotionKept b s) : MotionKept b (adjustDcap mean s) := by
  refine h.modMl _ rfl (fun hb => ?_) (fun h0 => ?_)
  · have := h.undriven hb; simp [this]
  · simp [h0]

theorem retryExpiry_safe {s : State} (h : MotionKept b s) : MotionKept b (retryExpiry s) := by
  unfold retryExpiry; split
  · next due =>
    have tripped : s.ml.bridge = .tripped := by
      unfold retryDue at due; simp at due; exact due.1
    have off : s.ml.d = 0 := h.undriven (by rw [tripped]; decide)
    exact h.modMl _ rfl (fun _ => off) id
  · exact h

theorem quietExpiry_safe {s : State} (h : MotionKept b s) : MotionKept b (quietExpiry s) := by
  unfold quietExpiry; split
  · exact h.modMl _ rfl h.undriven id
  · exact h

theorem motorFaultClear_safe {s : State} (h : MotionKept b s) : MotionKept b (motorFaultClear s) := by
  unfold motorFaultClear; split
  · exact recompute_safe (h.modMl_rest _ h.undriven id)
  · exact h

/-! ### The wheel phase chain -/

theorem storeOdometer_safe {s : State} (h : MotionKept b s) : MotionKept b (storeOdometer s) :=
  storeSetting_safe (storeSetting_safe h (by simp [curveIndex])) (by simp [curveIndex])

theorem keepOdometer_safe (old : Nat) {s : State} (h : MotionKept b s) : MotionKept b (keepOdometer old s) :=
  .ite h (storeOdometer_safe h)

theorem matcherAction_lane (m : Fin 8) (s : State) : SmokeLane s (matcherAction m s) := by
  unfold matcherAction; simp only []; repeat' split
  · exact .refl _
  · exact smokePuff_lane _
  · exact (raiseDirect_lane ..).toSmokeLane

theorem testMatchers_lane (s : State) : SmokeLane s (testMatchers s) := by
  unfold testMatchers
  refine .foldl (fun s m => ?_) _ _
  unfold testMatcher; split
  · exact matcherAction_lane ..
  · exact .refl _

theorem chuffCue_lane (s : State) : SmokeLane s (chuffCue s) := by
  unfold chuffCue; split
  · exact .refl _
  · exact (raiseCue_lane ..).toSmokeLane

/-- What a chain step hands on reaches the smoke and the sound alone (R49). -/
theorem handOnStep_lane (s : State) : SmokeLane s (handOnStep s) :=
  .trans (.trans (smokePuff_lane _) (chuffCue_lane _)) (testMatchers_lane _)

theorem chainStep_safe {s : State} (h : MotionKept b s) : MotionKept b (chainStep s) :=
  (handOnStep_lane _).safe (keepOdometer_safe _ (h.modMt _))

theorem chainSteps_safe : ∀ (n : Nat) {s : State}, MotionKept b s → MotionKept b (chainSteps n s)
  | 0, _, h => h
  | n + 1, _, h => chainSteps_safe n (chainStep_safe (h.modMt _))

theorem synthAdvance_safe {s : State} (h : MotionKept b s) : MotionKept b (synthAdvance s) :=
  chainSteps_safe _ (h.modMt _)

theorem sensorFallback_safe {s : State} (h : MotionKept b s) : MotionKept b (sensorFallback s) :=
  .ite (synthAdvance_safe (h.modMt _)) h

theorem trackGapEnd_safe {s : State} (h : MotionKept b s) : MotionKept b (trackGapEnd s) := by
  unfold trackGapEnd; split
  · exact synthAdvance_safe (h.modMt _)
  · exact .ite (sensorFallback_safe (h.modMt _)) (h.modMt _)

theorem pulseAccepted_safe {s : State} (h : MotionKept b s) : MotionKept b (pulseAccepted s) := by
  unfold pulseAccepted; repeat' split
  · exact chainStep_safe (h.modMt _)
  · exact chainStep_safe (h.modMt _)
  · exact h

theorem wheelPulse_safe (time : Nat) {s : State} (h : MotionKept b s) : MotionKept b (wheelPulse time s) :=
  .ite h (pulseAccepted_safe (h.modMt _))

theorem testLabor_safe {s : State} (h : MotionKept b s) : MotionKept b (testLabor s) := by
  unfold testLabor; repeat' split
  · exact (raiseCue_lane ..).safe (h.modMt _)
  · exact h
  · exact (raiseCue_lane ..).safe (h.modMt _)
  · exact h

theorem laborWindowClose_safe {s : State} (h : MotionKept b s) : MotionKept b (laborWindowClose s) :=
  .ite (testLabor_safe ((formFan_lane _).safe (h.modMt _))) h

theorem trackCurrent_safe (mean : Nat) {s : State} (h : MotionKept b s) : MotionKept b (trackCurrent mean s) :=
  laborWindowClose_safe (h.modMt _)

/-! ### The ramp and the travel direction -/

/-- The motion promises before the turn of R15. -/
structure MotionOnWay (b : Bool) (s : State) : Prop where
  reach : s.ct.target ≤ 112
  still : HeldStill b s
  undriven : UndrivenIsOff s

theorem MotionKept.onWay {s : State} (h : MotionKept b s) : MotionOnWay b s := ⟨h.reach, h.still, h.undriven⟩

theorem SoundLane.onWay {s t : State} (l : SoundLane s t) (h : MotionOnWay b s) : MotionOnWay b t where
  reach := by rw [l.ct]; exact h.reach
  still := by unfold HeldStill; rw [l.ct, l.slu, l.ml]; exact h.still
  undriven := by unfold UndrivenIsOff; rw [l.ml]; exact h.undriven

theorem recompute_onWay {s : State} (h : MotionOnWay b s) : MotionOnWay b (recompute s) :=
  ⟨h.reach, h.still, h.undriven⟩

theorem motorTurn_onWay {s : State} (h : MotionOnWay b s) : MotionOnWay b (motorTurn s) := by
  unfold motorTurn; split
  · exact ⟨h.reach, fun held => ⟨(h.still held).1, (h.still held).2.1, fun _ => rfl⟩, fun _ => rfl⟩
  · exact h

/-- After the turn the locomotive's travel direction is the one asked for (R15). -/
theorem turnTravel_safe {s : State} (h : MotionOnWay b s) : MotionKept b (turnTravel s) := by
  have turn : MotionOnWay b (motorTurn (s.modSlu fun u => { u with travel := s.ct.requested })) :=
    motorTurn_onWay ⟨h.reach, h.still, h.undriven⟩
  have cue := raiseCue_lane .reversed none (motorTurn (s.modSlu fun u => { u with travel := s.ct.requested }))
  have way := cue.onWay turn
  refine recompute_safe ⟨way.reach, way.still, way.undriven, fun _ => ?_⟩
  rw [cue.slu, cue.ct]
  unfold motorTurn; split <;> rfl

theorem turnIfDue_safe {s : State} (h : MotionOnWay b s) (cur : TargetCurrent s) : MotionKept b (turnIfDue s) := by
  unfold turnIfDue; split
  · exact turnTravel_safe h
  · next due =>
    refine ⟨h.reach, cur, h.still, h.undriven, fun r0 => ?_⟩
    unfold turnDue at due
    simp [r0] at due
    exact due.symm

/-- The notices of a crossing or a turn keep the motion promises (R15, R19). -/
theorem crossNotices_safe (crossed turned : Bool) {s : State} (h : MotionKept b s) :
    MotionKept b (crossNotices crossed turned s) := by
  unfold crossNotices
  refine anyOrder_keeps h (fun f hf t ht => ?_) (fun t n ht => ht.same (ht.current.blocks rfl rfl rfl rfl rfl) rfl rfl rfl
    rfl rfl rfl)
  rcases List.mem_append.mp hf with hf | hf
  · rw [mem_noticeIf.mp hf |>.2]; exact evaluateMap_safe ht
  · rw [mem_noticeIf.mp hf |>.2]; exact applyDeferred_safe ht

theorem motionNotices_safe (crossed : Bool) {s : State} (h : MotionOnWay b s) (cur : TargetCurrent s) :
    MotionKept b (motionNotices crossed s) :=
  crossNotices_safe _ _ (turnIfDue_safe h cur)

/-- New values of R and F keep the motion promises, where R is 0 under a held latch (R15, R16, R18, R19). -/
theorem setRamp_safe (r f : Nat) {s : State} (reach : s.ct.target ≤ 112) (cur : TargetCurrent s)
    (undriven : UndrivenIsOff s)
    (still : s.ct.latch.held = true → s.ct.target = 0 ∧ r = 0 ∧ (b = true → s.ml.d = 0)) :
    MotionKept b (setRamp r f s) := by
  have way : MotionOnWay b (putRamp r f s) := ⟨reach, still, undriven⟩
  unfold setRamp afterRamp
  split
  · exact motionNotices_safe true (recompute_onWay ((raiseCue_lane ..).onWay way)) rfl
  split
  · exact motionNotices_safe true (recompute_onWay ((raiseCue_lane ..).onWay way)) rfl
  · next h0 h1 =>
    refine motionNotices_safe false way (cur.congr reach ⟨rfl, rfl, rfl, rfl, rfl, rfl, ?_, rfl, fun _ _ => rfl⟩ rfl)
    have e : (putRamp r f s).slu.r = r := rfl
    rw [e] at h0 h1 ⊢
    apply propext; omega

/-- The requested direction's change keeps the motion promises (R15). -/
theorem setRequested_safe (d : Direction) {s : State} (h : MotionKept b s) : MotionKept b (setRequested d s) :=
  motionNotices_safe false ⟨h.reach, h.still, h.undriven⟩ rfl

/-- A ramp step from R 0 toward a target of 0 leaves R at 0 (R12). -/
theorem rampStep_zero (f rate : Nat) (momentumOff : Bool) : (rampStep 0 f 0 rate momentumOff).1 = 0 := rfl

theorem rampTick_safe {s : State} (h : MotionKept b s) : MotionKept b (rampTick s) := by
  refine .ite h (setRamp_safe _ _ h.reach h.current h.undriven fun held => ?_)
  have still := h.still held
  have e : s.slu.tEff = 0 := h.current.trans (effectiveTarget_held held)
  refine ⟨still.1, ?_, still.2.2⟩
  rw [e, still.2.1]; exact rampStep_zero ..

theorem reSeed_safe {s : State} (h : MotionKept b s) : MotionKept b (reSeed s) := by
  refine setRamp_safe _ _ h.reach h.current h.undriven fun held => ?_
  have e : s.slu.tEff = 0 := h.current.trans (effectiveTarget_held held)
  exact ⟨(h.still held).1, by rw [e]; omega, (h.still held).2.2⟩

/-! ### The Stop latch -/

/-- The first cause of the Stop latch brings target, R and duty to 0 (R16, R32, R170). -/
theorem firstCause_safe {s : State} (undriven : UndrivenIsOff s) :
    MotionKept true (firstCause s) := by
  have ramp : MotionKept false (setRamp 0 0 (setTarget 0 s)) :=
    setRamp_safe _ _ (Nat.zero_le _) rfl undriven fun _ => ⟨rfl, rfl, by simp⟩
  have stop : MotionKept false (emergencyStop (setTarget 0 s)) := recompute_safe ramp.rest
  have off := motorFirstCause_off stop
  have full := motorFirstCause_safe stop
  refine (raiseCue_lane ..).safe ⟨full.reach, full.current, fun held => ?_, full.undriven, full.turned⟩
  exact ⟨(full.still held).1, (full.still held).2.1, fun _ => off⟩

/-- A cause that joins the Stop latch keeps the motion promises. -/
theorem addCause_safe (g : StopLatch → StopLatch) (holds : ∀ l, (g l).held = true) {s : State}
    (h : MotionKept true s) : MotionKept true (addCause g s) := by
  unfold addCause; split
  · next held =>
    refine ⟨h.reach, h.current.congr h.reach ⟨rfl, rfl, ?_, rfl, rfl, rfl, rfl, rfl, fun _ _ => rfl⟩ rfl,
      fun _ => h.still held, h.undriven, h.turned⟩
    show (g s.ct.latch).held = s.ct.latch.held
    rw [holds, held]
  · exact firstCause_safe h.undriven

theorem removeCauses_safe (g : StopLatch → StopLatch) {s : State}
    (less : ∀ l, (g l).held = true → l.held = true) (h : MotionKept true s) : MotionKept true (removeCauses g s) := by
  have still : HeldStill true (modLatch g s) := fun held => h.still (less _ held)
  unfold removeCauses; split
  · exact recompute_safe ⟨h.reach, still, h.undriven, h.turned⟩
  · next same =>
    refine ⟨h.reach, h.current.congr h.reach ⟨rfl, rfl, ?_, rfl, rfl, rfl, rfl, rfl, fun _ _ => rfl⟩ rfl, still, h.undriven,
      h.turned⟩
    show (g s.ct.latch).held = s.ct.latch.held
    have := less s.ct.latch
    cases h1 : s.ct.latch.held <;> cases h2 : (g s.ct.latch).held <;> simp_all

end Sys2Proof.Machine
end

