-- ==== Sys2Proof/Laws/ChainLaws.lean ====
section
/-! SUPPORT. What the wheel phase chain makes of the Motion Record and of the odometer halves (R47, R48, R50). -/

namespace Sys2Proof.Machine

/-! ### One chain step -/

theorem storeOdometer_mt (s : State) : (storeOdometer s).mt = s.mt := rfl

theorem keepOdometer_mt (old : Nat) (s : State) : (keepOdometer old s).mt = s.mt := by
  unfold keepOdometer; split <;> rfl

/-- A chain step makes of the Motion Record what R48 says, whatever it hands on. -/
theorem chainStep_mt (s : State) : (chainStep s).mt = advanceChain (setting s 17) s.mt := by
  unfold chainStep; rw [(handOnStep_lane _).mt, keepOdometer_mt]; rfl

/-- A chain step changes no setting but the odometer halves. -/
theorem chainStep_setting (s : State) {i : Nat} (h : i ≠ 501) (l : i ≠ 502) : setting (chainStep s) i = setting s i := by
  have kept : setting (keepOdometer s.mt.odometer (s.modMt (advanceChain (setting s 17)))) i = setting s i := by
    unfold keepOdometer; split
    · rfl
    · unfold storeOdometer; rw [setting_store_ne l, setting_store_ne h]; rfl
  rw [← kept]; unfold chainStep setting; rw [(handOnStep_lane _).ss]

theorem chainStep_wf {s : State} (h : s.ss.working.wf = true) : (chainStep s).ss.working.wf = true := by
  unfold chainStep; rw [(handOnStep_lane _).ss]
  unfold keepOdometer; split
  · exact h
  · exact Store.write_wf (Store.write_wf h _ _) _ _

/-- After a chain step that moved the Odometer the halves show it (R50). -/
theorem chainStep_halves {s : State} (wf : s.ss.working.wf = true) (h : (chainStep s).mt.odometer ≠ s.mt.odometer) :
    setting (chainStep s) 501 = (chainStep s).mt.odometer / 65536 ∧
      setting (chainStep s) 502 = (chainStep s).mt.odometer % 65536 := by
  rw [chainStep_mt] at h
  unfold setting chainStep
  rw [(handOnStep_lane _).ss, (handOnStep_lane _).mt, keepOdometer_mt]
  unfold keepOdometer; rw [if_neg (by exact h)]
  constructor
  · show (Store.write (Store.write s.ss.working 501 _) 502 _).read 501 = _
    rw [Store.read_write_ne (by decide), Store.read_write_same wf]
  · show (Store.write (Store.write s.ss.working 501 _) 502 _).read 502 = _
    rw [Store.read_write_same (Store.write_wf wf _ _)]

/-! ### A run of chain steps -/

theorem chainSteps_setting : ∀ (n : Nat) (s : State) {i : Nat}, i ≠ 501 → i ≠ 502 →
    setting (chainSteps n s) i = setting s i
  | 0, _, _, _, _ => rfl
  | n + 1, s, i, h, l => by
    unfold chainSteps; rw [chainSteps_setting n _ h l, chainStep_setting _ h l]; rfl

theorem chainSteps_wf : ∀ (n : Nat) {s : State}, s.ss.working.wf = true → (chainSteps n s).ss.working.wf = true
  | 0, _, h => h
  | n + 1, _, h => chainSteps_wf n (chainStep_wf h)

/-- The Motion Record after `n` chain steps (R47, R48). -/
theorem chainSteps_mt : ∀ (n : Nat) (s : State), s.mt.chuff < setting s 17 → s.mt.revolution < 256 →
    s.mt.odometer < 4294967296 →
    (chainSteps n s).mt =
      { s.mt with
        pa := s.mt.pa - n * setting s 16, chuff := (s.mt.chuff + n) % setting s 17
        revolution := (s.mt.revolution + (s.mt.chuff + n) / setting s 17) % 256
        odometer := (s.mt.odometer + (s.mt.chuff + n) / setting s 17) % 4294967296 }
  | 0, s, c, r, o => by
    simp [chainSteps, Nat.mod_eq_of_lt c, Nat.div_eq_of_lt c, Nat.mod_eq_of_lt r, Nat.mod_eq_of_lt o]
  | n + 1, s, c, r, o => by
    unfold chainSteps
    have mt := chainStep_mt (s.modMt fun m => { m with pa := m.pa - setting s 16 })
    have s17 := chainStep_setting (s.modMt fun m => { m with pa := m.pa - setting s 16 }) (i := 17) (by decide) (by decide)
    have s16 := chainStep_setting (s.modMt fun m => { m with pa := m.pa - setting s 16 }) (i := 16) (by decide) (by decide)
    have base17 : setting (s.modMt fun m => { m with pa := m.pa - setting s 16 }) 17 = setting s 17 := rfl
    have base16 : setting (s.modMt fun m => { m with pa := m.pa - setting s 16 }) 16 = setting s 16 := rfl
    rw [base17] at mt s17; rw [base16] at s16
    revert mt s16 s17
    generalize chainStep (s.modMt fun m => { m with pa := m.pa - setting s 16 }) = u
    intro mt s17 s16
    have pa : s.mt.pa - setting s 16 - n * setting s 16 = s.mt.pa - (n + 1) * setting s 16 := by
      rw [Nat.add_mul, Nat.one_mul]; omega
    by_cases full : s.mt.chuff + 1 = setting s 17
    · have here : u.mt =
          { s.mt with
            pa := s.mt.pa - setting s 16, chuff := 0, revolution := (s.mt.revolution + 1) % 256
            odometer := (s.mt.odometer + 1) % 4294967296 } := by
        rw [mt]; simp [advanceChain, full]
      have sum : s.mt.chuff + (n + 1) = n + setting s 17 := by omega
      rw [chainSteps_mt n u (by rw [here, s17]; exact Nat.lt_of_le_of_lt (Nat.zero_le _) c)
        (by rw [here]; exact Nat.mod_lt _ (by decide)) (by rw [here]; exact Nat.mod_lt _ (by decide)), here, s16, s17, sum]
      simp only [Nat.zero_add, Nat.add_mod_right, Nat.add_div_right _ (Nat.lt_of_le_of_lt (Nat.zero_le _) c), pa,
        Nat.mod_add_mod]
      congr 2 <;> omega
    · have here : u.mt = { s.mt with pa := s.mt.pa - setting s 16, chuff := s.mt.chuff + 1 } := by
        rw [mt]; simp [advanceChain, full]
      have sum : s.mt.chuff + 1 + n = s.mt.chuff + (n + 1) := by omega
      rw [chainSteps_mt n u (by rw [here, s17]; show s.mt.chuff + 1 < _; omega) (by rw [here]; exact r)
        (by rw [here]; exact o), here, s16, s17]
      simp only [sum, pa]

/-- As long as the Odometer moved in the last chain step that moved it, the halves show it (R50). -/
theorem chainSteps_halves : ∀ (n : Nat) {s : State}, s.ss.working.wf = true →
    (setting s 501 = s.mt.odometer / 65536 ∧ setting s 502 = s.mt.odometer % 65536) ∨
      (chainSteps n s).mt.odometer ≠ s.mt.odometer →
    setting (chainSteps n s) 501 = (chainSteps n s).mt.odometer / 65536 ∧
      setting (chainSteps n s) 502 = (chainSteps n s).mt.odometer % 65536
  | 0, _, _, h => h.resolve_right fun h => h rfl
  | n + 1, s, wf, h => by
    unfold chainSteps at h ⊢
    have wf' : (chainStep (s.modMt fun m => { m with pa := m.pa - setting s 16 })).ss.working.wf = true := chainStep_wf wf
    refine chainSteps_halves n wf' ?_
    by_cases moved : (chainStep (s.modMt fun m => { m with pa := m.pa - setting s 16 })).mt.odometer = s.mt.odometer
    · rcases h with h | h
      · left; rw [moved]
        have kept : ∀ i, setting (chainStep (s.modMt fun m => { m with pa := m.pa - setting s 16 })) i = setting s i := by
          intro i
          unfold setting chainStep; rw [(handOnStep_lane _).ss]; unfold keepOdometer
          rw [chainStep_mt] at moved
          rw [if_pos (by exact moved)]; rfl
        rw [kept, kept]; exact h
      · right; rw [moved]; exact h
    · left; exact chainStep_halves wf moved

end Sys2Proof.Machine
end

