-- ==== Sys2Proof/Laws/PowerLaws.lean ====
section
/-! SUPPORT. The Power Supervisor, the shared timers, the readings and the restarts keep the motion promises. -/

namespace Sys2Proof.Machine

variable {b : Bool}

/-! ### The power state -/

theorem shedTo_safe (new : PowerState) {s : State} (h : MotionKept b s) : MotionKept b (shedTo new s) := by
  have motor : MotionKept b (shedMotor new (setPower new s)) := .ite (motorShed_safe (h.modPs _)) (h.modPs _)
  exact (smokePower_lane ..).safe ((refreshLights_lane _).safe motor)

theorem inputLost_safe {s : State} (h : MotionKept b s) : MotionKept b (inputLost s) :=
  (smokePower_lane ..).safe ((refreshLights_lane _).safe ((raiseCue_lane ..).safe (h.modPs _)))

theorem inputReturn_safe {s : State} (h : MotionKept b s) : MotionKept b (inputReturn s) := by
  have lit : MotionKept b (refreshLights (motorReturn (enterNormal s))) :=
    (refreshLights_lane _).safe (motorReturn_safe (h.modPs _))
  unfold inputReturn returnNotices
  refine anyOrder_keeps lit (fun f hf t ht => ?_) (fun t n ht => ht.same (ht.current.blocks rfl rfl rfl rfl rfl) rfl rfl rfl
    rfl rfl rfl)
  rcases List.mem_append.mp hf with hf | hf
  · rw [mem_noticeIf.mp hf |>.2]; exact reSeed_safe ht
  · rw [mem_noticeIf.mp hf |>.2]; exact (smokePower_lane ..).safe ht

theorem stopWrites_lane (s : State) : WriteLane s (stopWrites s) := .modSs _ _

/-- The save begins in ODOMETER behind an abandoned restart's Odometer write with an empty queue, else in PERSIST. -/
theorem firstStage_cases (s : State) :
    (firstStage s = .odometer ∧ s.ss.persist = [] ∧ ∃ v, s.nv.write = some (.pending, .odometer v)) ∨
      (firstStage s = .persist ∧ (s.ss.persist ≠ [] ∨ ∀ v, s.nv.write ≠ some (.pending, .odometer v))) := by
  unfold firstStage; split
  · rename_i v h
    by_cases e : s.ss.persist = [] <;> simp [e, h]
  all_goals simp_all

theorem goDown_safe {s : State} (h : MotionKept b s) : MotionKept b (goDown s) :=
  (nextWrite_lane _).safe ((stopWrites_lane _).safe ((shedTo_safe .down h).modPs _))

theorem storeTest_safe (vs : Nat) {s : State} (h : MotionKept b s) : MotionKept b (storeTest vs s) := by
  unfold storeTest; split
  · exact h
  · exact h
  · exact .ite (goDown_safe h) (.ite (shedTo_safe _ h) (.ite (shedTo_safe _ h) h))
  · exact .ite (goDown_safe h) (.ite (shedTo_safe _ h) h)
  · exact .ite (goDown_safe h) h

theorem vsReading_safe (raw : Raw) {s : State} (h : MotionKept b s) : MotionKept b (vsReading raw s) :=
  storeTest_safe _ (h.modScan _)

theorem bridgingExpiry_safe {s : State} (h : MotionKept b s) : MotionKept b (bridgingExpiry s) :=
  .ite (shedTo_safe _ h) h

theorem formAllowance_safe (mean : Nat) {s : State} (h : MotionKept b s) : MotionKept b (formAllowance mean s) :=
  (smokeAllowance_lane ..).safe (h.modPs _)

/-! ### The save -/

theorem orderOutputsOff_safe {s : State} (h : MotionKept b s) : MotionKept b (orderOutputsOff s) :=
  (refreshLights_lane _).safe ((soundOff_lane _).safe ((smokeOff_lane _).safe (motorOff_safe (h.modPs _))))

theorem beginWarm_lane (s : State) : QueueLane s (beginWarm s) := by
  unfold beginWarm; split
  · exact beginWrite_lane ..
  · exact .refl _

theorem setStage_lane (stage : SaveStage) (s : State) : QueueLane s (setStage stage s) := .modPs _ _

theorem saveEnded_safe {s : State} (h : MotionKept b s) : MotionKept b (saveEnded s) :=
  .ite ((beginWarm_lane _).safe ((setStage_lane ..).safe h)) (orderOutputsOff_safe ((setStage_lane ..).safe h))

theorem beginRecord_lane (s : State) : QueueLane s (beginRecord s) := (setStage_lane ..).trans (beginWrite_lane ..)

theorem saveAdvance_safe (job : NvJob) {s : State} (h : MotionKept b s) : MotionKept b (saveAdvance job s) := by
  unfold saveAdvance; split
  · exact (nextWrite_lane _).safe h
  · exact (beginRecord_lane _).safe h
  · exact (beginWrite_lane ..).safe ((setStage_lane ..).safe h)
  · exact saveEnded_safe h
  · exact h

theorem saveWriteDone_safe {s : State} (h : MotionKept b s) : MotionKept b (saveWriteDone s) := by
  unfold saveWriteDone; split
  · exact saveAdvance_safe _ ((persistLanded_lane ..).safe ((landWrite_lane ..).safe h))
  all_goals exact h

/-! ### The timers -/

theorem lossAction_safe {s : State} (h : MotionKept true s) : MotionKept true (lossAction s) :=
  .ite (setTarget_zero_safe h) (.ite h (addCause_safe _ (fun l => by simp [withSignalLoss, StopLatch.held]) h))

theorem signalLossExpiry_safe {s : State} (h : MotionKept true s) : MotionKept true (signalLossExpiry s) :=
  .ite (lossAction_safe (momentaryOff_safe (markLost_safe h))) h

/-- Whatever their order, the counts that have run out at a step keep the motion promises. -/
theorem stepTimer_safe {s : State} (h : MotionKept true s) : MotionKept true (stepTimer s) := by
  have ages : MotionKept true (riseAges s) := watcherAgeOut_safe (h.modCt _)
  have count : MotionKept true (countStep (riseAges s)) :=
    ages.same (ages.current.congr ages.reach ⟨rfl, rfl, rfl, rfl, rfl, rfl, rfl, rfl, fun _ _ => rfl⟩ rfl) rfl rfl rfl rfl rfl
      rfl
  unfold stepTimer stepExpiries
  refine anyOrder_keeps count (fun f hf t ht => ?_) (fun t n ht => ht.same (ht.current.blocks rfl rfl rfl rfl rfl) rfl rfl
    rfl rfl rfl rfl)
  rcases List.mem_append.mp hf with hf | hf
  · rcases List.mem_append.mp hf with hf | hf
    · rw [mem_noticeIf.mp hf |>.2]; exact signalLossExpiry_safe ht
    · rw [mem_noticeIf.mp hf |>.2]; exact holdOffExpiry_safe ht
  · rw [mem_noticeIf.mp hf |>.2]; exact (telemetryExpiry_lane _).safe ht

theorem controlCycle_safe {s : State} (h : MotionKept b s) : MotionKept b (controlCycle s) := by
  have count : MotionKept b (countCycle s) :=
    ((h.modMl (fun m => { m with inGap := true, retry := tickTimer m.retry, quiet := tickTimer m.quiet }) rfl h.undriven
      id).modPs _)
  unfold controlCycle cycleExpiries
  refine anyOrder_keeps count (fun f hf t ht => ?_) (fun t n ht => ht.same (ht.current.blocks rfl rfl rfl rfl rfl) rfl rfl
    rfl rfl rfl rfl)
  simp only [List.mem_append, List.mem_singleton, mem_noticeIf] at hf
  obtain ((rfl | ⟨_, rfl⟩) | ⟨_, rfl⟩) | ⟨_, rfl⟩ := hf
  · exact rampTick_safe ht
  · exact retryExpiry_safe ht
  · exact quietExpiry_safe ht
  · exact bridgingExpiry_safe ht

/-! ### The readings -/

theorem inputTest_safe (vin : Nat) {s : State} (h : MotionKept b s) : MotionKept b (inputTest vin s) := by
  have shed : MotionKept b (vinShed vin s) := .ite (inputReturn_safe h) (h.modPs _)
  unfold inputTest; split
  · exact .ite (h.modPs _) (.ite (h.modPs _) (inputLost_safe h))
  · exact shed
  · exact shed
  · exact shed
  · exact .ite ((beginWarm_lane _).safe (h.modPs _)) (h.modPs _)

theorem vinReading_safe (raw : Raw) {s : State} (h : MotionKept b s) : MotionKept b (vinReading raw s) :=
  inputTest_safe _ (h.modScan _)

theorem bemfReading_safe (which : Fin 3) (polarity : Direction) (raw : Raw) {s : State} (h : MotionKept b s) :
    MotionKept b (bemfReading which polarity raw s) := by
  unfold bemfReading; exact h.modScan _

theorem effectsTick_safe {s : State} (h : MotionKept b s) : MotionKept b (effectsTick s) := by
  refine (smokeTick_lane _).safe (.ite h ((refreshLights_lane _).safe (LightLane.safe (s := s) ?_ h)))
  exact .foldl tickGen_lane ..

theorem thermistorReading_safe (raw : Raw) {s : State} (h : MotionKept b s) : MotionKept b (thermistorReading raw s) :=
  (smokeReading_lane ..).safe (h.modScan _)

theorem gapEnd_safe {s : State} (h : MotionKept b s) : MotionKept b (gapEnd s) :=
  trackGapEnd_safe (decideBridge_safe (formSpeed_safe h))

theorem currentReading_safe (which : Fin 2) (raw : Raw) {s : State} (h : MotionKept b s) :
    MotionKept b (currentReading which raw s) :=
  .ite (compareCurrent_safe _ (h.modScan _))
    (formAllowance_safe _ (trackCurrent_safe _ (adjustDcap_safe _ (compareCurrent_safe _ (h.modScan _)))))

/-! ### Restarts -/

/-- A restart leaves the motion promises, whatever state it finds (R21, R46, R176). -/
theorem performRestart_safe (kind : RestartKind) (sample : Raw) (s : State) : MotionKept b (performRestart kind sample s) := by
  have ct : ∀ w c, (restartCt kind w c).target ≤ 112 ∧ (restartCt kind w c).latch = StopLatch.empty := by
    intro w c; unfold restartCt; split
    · exact ⟨Nat.min_le_left .., rfl⟩
    · exact ⟨Nat.zero_le _, rfl⟩
  have blocks : MotionKept b (restartBlocks kind sample s) := by
    refine recompute_safe ⟨(ct _ _).1, fun held => ?_, fun _ => rfl, fun _ => rfl⟩
    have e : (restartCt kind (restartWorking kind s) s.nv.record).latch.held = true := held
    rw [(ct _ _).2] at e
    exact absurd e (by decide)
  have cue : MotionKept b (restartAmbient (restartBlocks kind sample s)) :=
    .ite blocks ((raiseCue_lane ..).safe blocks)
  unfold performRestart restartNotices
  refine anyOrder_keeps cue (fun f hf t ht => ?_) (fun t n ht => ht.same (ht.current.blocks rfl rfl rfl rfl rfl) rfl rfl
    rfl rfl rfl rfl)
  simp only [List.mem_append, List.mem_singleton, mem_noticeIf] at hf
  obtain ⟨_, rfl⟩ | rfl := hf
  · exact (raiseCue_lane ..).safe ht
  · exact evaluateMap_safe ht

theorem powerLoss_safe (s : State) : MotionKept b (powerLoss s) := by
  refine ⟨Nat.zero_le _, ?_, fun held => ?_, fun _ => rfl, fun _ => rfl⟩
  · rfl
  · exact absurd held (by decide : ¬ StopLatch.empty.held = true)

theorem powerUp_safe (sample : Raw) {s : State} (h : MotionKept b s) : MotionKept b (powerUp sample s) := by
  unfold powerUp; split
  · split
    · exact (beginWrite_lane ..).safe (h.same (h.current.blocks rfl rfl rfl rfl rfl) rfl rfl rfl rfl rfl rfl)
    · exact performRestart_safe ..
  · exact h
  · exact h

theorem markClearDone_safe (sample : Raw) {s : State} (h : MotionKept b s) : MotionKept b (markClearDone sample s) := by
  unfold markClearDone; split
  · exact performRestart_safe ..
  all_goals exact h

theorem pendingOdometerDone_safe (sample : Raw) {s : State} (h : MotionKept b s) :
    MotionKept b (pendingOdometerDone sample s) := by
  unfold pendingOdometerDone; split
  · exact performRestart_safe ..
  · exact .ite ((beginRecord_lane _).safe h) ((nextWrite_lane _).safe h)

theorem pendingAdvance_safe (sample : Raw) (job : NvJob) {s : State} (h : MotionKept b s) :
    MotionKept b (pendingAdvance sample job s) := by
  unfold pendingAdvance; split
  · exact pendingOdometerDone_safe _ h
  · exact (nextWrite_lane _).safe h
  all_goals exact h

theorem pendingRestartWriteDone_safe (sample : Raw) {s : State} (h : MotionKept b s) :
    MotionKept b (pendingRestartWriteDone sample s) := by
  unfold pendingRestartWriteDone; split
  · exact pendingAdvance_safe _ _ ((persistLanded_lane ..).safe ((landWrite_lane ..).safe h))
  all_goals exact h

end Sys2Proof.Machine
end

