-- ==== Sys2Proof/Laws/LinkLaws.lean ====
section
/-! SUPPORT. The owners' actions on frames, the receivers and the Frame Decoder keep the motion promises. -/

namespace Sys2Proof.Machine

/-! ### The owners' actions -/

theorem claim_safe (sender address : Nat) (steal : Bool) {s : State} (h : MotionKept true s) :
    MotionKept true (claim sender address steal s) :=
  .ite ((queueReply_lane ..).safe (setRole_safe _ _ h))
    (.ite ((queueReply_lane ..).safe (becomeDriver_safe _ _ h)) ((queueReply_lane ..).safe h))

theorem release_safe (sender : Nat) {s : State} (h : MotionKept true s) : MotionKept true (release sender s) := by
  have off : MotionKept true (telemetryStop (momentaryOff (setRole sender .watcher s))) :=
    (telemetryStop_lane _).safe (momentaryOff_safe (setRole_safe _ _ h))
  exact .ite ((queueReply_lane ..).safe (.ite (setTarget_zero_safe off) off)) ((queueReply_lane ..).safe h)

/-- An accepted DRIVE keeps the motion promises (R165). -/
theorem driveAccepted_safe (address stepNo : Nat) (d : Direction) {s : State} (h : MotionKept true s) :
    MotionKept true (driveAccepted address stepNo d s) := by
  have turned := setRequested_safe (ownDirection s address d) h
  have stopped : MotionKept true (driveStop stepNo (setRequested (ownDirection s address d) s)) :=
    .ite (motorFaultClear_safe (removeCauses_safe _ (fun _ e => absurd e (by decide)) turned)) turned
  unfold driveAccepted driveGo
  refine setTarget_safe stopped.rest ?_ fun held => ?_
  · unfold driveTarget; split <;> omega
  · unfold driveTarget; rw [if_pos held]

theorem drive_safe (sender address stepNo : Nat) (d : Direction) {s : State} (h : MotionKept true s) :
    MotionKept true (drive sender address stepNo d s) := by
  unfold drive; split
  · exact (queueReply_lane ..).safe h
  · exact (queueReply_lane ..).safe (driveAccepted_safe _ _ _ h)

theorem func_safe (sender address : Nat) (function : Fin 32) (action : FuncAction) {s : State} (h : MotionKept true s) :
    MotionKept true (func sender address function action s) :=
  .ite ((queueReply_lane ..).safe (.ite (setFunction_safe _ _ h) h)) ((queueReply_lane ..).safe h)

theorem estop_safe (sender : Nat) {s : State} (h : MotionKept true s) : MotionKept true (estop sender s) :=
  (queueReply_lane ..).safe (addCause_safe _ (fun l => by simp [withThrottleEstop, StopLatch.held]) h)

theorem haltAll_safe {s : State} (h : MotionKept true s) : MotionKept true (haltAll s) :=
  addCause_safe _ (fun l => by simp [withBaseHalt, StopLatch.held]) h

theorem resumeAll_safe {s : State} (h : MotionKept true s) : MotionKept true (resumeAll s) :=
  removeCauses_safe _ (fun l e => by
    revert e; simp [afterResume, StopLatch.held]; intro e; rcases e with e | e <;> simp [e]) h

theorem consistJoin_safe (sender address consist : Nat) (o : Orientation) (role : ConsistRole) {s : State}
    (h : MotionKept true s) : MotionKept true (consistJoin sender address consist o role s) := by
  unfold consistJoin; split
  · exact (queueReply_lane ..).safe h
  · exact (queueReply_lane ..).safe (applyConsist_safe _ _ h)

theorem consistLeave_safe (sender address : Nat) {s : State} (h : MotionKept true s) :
    MotionKept true (consistLeave sender address s) := by
  unfold consistLeave; split
  · exact (queueReply_lane ..).safe h
  · exact (queueReply_lane ..).safe (applyConsist_safe _ _ h)

theorem storeTakesSet_safe (source : Source) (i v : Nat) {s : State} (h : MotionKept true s) :
    MotionKept true (storeTakesSet source i v s) := by
  unfold storeTakesSet; split
  · exact (answer_lane ..).safe h
  · exact (answer_lane ..).safe ((WriteLane.modSs s _).safe h)
  · exact (answer_lane ..).safe (applySetting_safe _ _ h)

theorem setCommand_safe (source : Source) (i v : Nat) {s : State} (h : MotionKept true s) :
    MotionKept true (setCommand source i v s) :=
  .ite (storeTakesSet_safe _ _ _ h) ((answer_lane ..).safe h)

theorem getCommand_safe (source : Source) (i : Nat) {s : State} (h : MotionKept true s) :
    MotionKept true (getCommand source i s) := by
  unfold getCommand; repeat' split
  all_goals exact (answer_lane ..).safe h

theorem restart_safe {s : State} (h : MotionKept true s) : MotionKept true (restart s) :=
  .ite ((serviceSend_lane ..).safe h)
    ((serviceSend_lane ..).safe ((nextWrite_lane _).safe ((stopWrites_lane _).safe (h.modPs _))))

theorem defaults_safe {s : State} (h : MotionKept true s) : MotionKept true (defaults s) :=
  .ite ((serviceSend_lane ..).safe h) ((serviceSend_lane ..).safe ((nextWrite_lane _).safe ((WriteLane.modSs s _).safe h)))

/-- Whatever command a frame asks for, the owner's action keeps the motion promises. -/
theorem ownerActsOn_safe (i : Instr) {s : State} (h : MotionKept true s) : MotionKept true (ownerActsOn i s) := by
  cases i <;> unfold ownerActsOn
  case claim => exact claim_safe _ _ _ h
  case release => exact release_safe _ h
  case drive => exact drive_safe _ _ _ _ h
  case func => exact func_safe _ _ _ _ h
  case estop => exact estop_safe _ h
  case query => exact (answer_lane ..).safe h
  case consistJoin => exact consistJoin_safe _ _ _ _ _ h
  case consistLeave => exact consistLeave_safe _ _ h
  case set => exact setCommand_safe _ _ _ h
  case get => exact getCommand_safe _ _ h
  case haltAll => exact haltAll_safe h
  case resumeAll => exact resumeAll_safe h
  case credit => exact (takeCredit_lane ..).safe h
  case restart => exact restart_safe h
  case defaults => exact defaults_safe h
  case identify => exact (serviceSend_lane ..).safe h
  all_goals exact h

/-! ### The Frame Decoder -/

theorem handleRadio_safe (i : Instr) {s : State} (h : MotionKept true s) : MotionKept true (handleRadio i s) := by
  refine ownerActsOn_safe i ?_
  unfold hearSender; split
  · exact hear_safe _ h
  · exact h

theorem handleService_safe (i : Instr) {s : State} (h : MotionKept true s) : MotionKept true (handleService i s) :=
  ownerActsOn_safe i ((LinkLane.modService s _).safe h)

theorem takeRadio_safe (i : Instr) {s : State} (h : MotionKept true s) : MotionKept true (takeRadio i s) :=
  .ite (handleRadio_safe i h) h

theorem takeTool_safe (kind : Nat) (i : Instr) {s : State} (h : MotionKept true s) :
    MotionKept true (takeTool kind i s) := by
  unfold takeTool; repeat' split
  · exact handleService_safe i h
  · exact (LinkLane.modService s _).safe h
  · exact (LinkLane.modService s _).safe h
  · exact (LinkLane.modService s _).safe h
  · exact h

theorem takeFrom_safe (source : Source) (kind : Nat) (i : Instr) {s : State} (h : MotionKept true s) :
    MotionKept true (takeFrom source kind i s) := by
  unfold takeFrom; split
  · exact takeRadio_safe i h
  · exact takeTool_safe kind i h

theorem takeRadioFrame_safe (f : Frame) {s : State} (h : MotionKept true s) : MotionKept true (takeRadioFrame f s) := by
  unfold takeRadioFrame; split
  · exact handleRadio_safe _ h
  · exact h

theorem takeServiceFrame_safe (f : Frame) {s : State} (h : MotionKept true s) : MotionKept true (takeServiceFrame f s) := by
  unfold takeServiceFrame; split
  · exact handleService_safe _ ((LinkLane.modService s _).safe h)
  · exact (serviceNext_lane _).safe ((LinkLane.modService s _).safe h)

theorem MotionKept.modDecoder {b : Bool} {s : State} (h : MotionKept b s) (g : Decoder → Decoder) :
    MotionKept b (s.modDecoder g) :=
  h.same (h.current.blocks rfl rfl rfl rfl rfl) rfl rfl rfl rfl rfl rfl

theorem takeNext_safe {s : State} (h : MotionKept true s) : MotionKept true (takeNext s) := by
  have radio : ∀ f rest, MotionKept true
      (takeRadioFrame f (occupy .radio (s.modRadio fun b => { b with frames := rest }))) := fun f rest =>
    takeRadioFrame_safe f (((LinkLane.modRadio s _).safe h).modDecoder _)
  have service : ∀ g, MotionKept true (takeServiceFrame g (occupy .service s)) := fun g =>
    takeServiceFrame_safe g (h.modDecoder _)
  unfold takeNext; repeat' split
  all_goals first | exact h | exact radio _ _ | exact service _

theorem decoderFree_safe {s : State} (h : MotionKept true s) : MotionKept true (decoderFree s) :=
  .ite (takeNext_safe (h.modDecoder _)) h

theorem radioFramePassed_safe (f : Frame) {s : State} (h : MotionKept true s) : MotionKept true (radioFramePassed f s) :=
  .ite (takeNext_safe ((LinkLane.modRadio s _).safe h)) ((LinkLane.modRadio s _).safe h)

theorem serviceFramePassed_safe (f : Frame) {s : State} (h : MotionKept true s) :
    MotionKept true (serviceFramePassed f s) := by
  unfold serviceFramePassed; split
  · exact takeNext_safe ((LinkLane.modService s _).safe h)
  all_goals exact (LinkLane.modService s _).safe h

/-! ### The receivers -/

theorem radioRx_safe (rx : RxState) (bs : List Byte) {s : State} (h : MotionKept true s) : MotionKept true (radioRx rx bs s) :=
  (LinkLane.modRadio s _).safe h

theorem serviceRx_safe (rx : RxState) (bs : List Byte) {s : State} (h : MotionKept true s) :
    MotionKept true (serviceRx rx bs s) :=
  (LinkLane.modService s _).safe h

theorem lineMarking_safe {s : State} (h : MotionKept true s) : MotionKept true (lineMarking s) :=
  (LinkLane.modRadio s _).safe h

theorem radioByte_safe (data : Byte) {s : State} (h : MotionKept true s) : MotionKept true (radioByte data s) :=
  .ite (radioRx_safe _ _ h) (.ite (radioRx_safe _ _ h)
    (.ite (.ite (radioFramePassed_safe _ (radioRx_safe _ _ h)) (radioRx_safe _ _ h)) (radioRx_safe _ _ h)))

theorem serviceByte_safe (data : Byte) {s : State} (h : MotionKept true s) : MotionKept true (serviceByte data s) :=
  .ite (serviceRx_safe _ _ h)
    (.ite (.ite (serviceFramePassed_safe _ (serviceRx_safe _ _ h)) (serviceRx_safe _ _ h)) (serviceRx_safe _ _ h))

theorem radioCharacter_safe (data : Byte) (marker stopOk : Bool) {s : State} (h : MotionKept true s) :
    MotionKept true (radioCharacter data marker stopOk s) := by
  unfold radioCharacter; repeat' split
  · exact radioRx_safe _ _ h
  · exact radioRx_safe _ _ (lineMarking_safe h)
  · exact lineMarking_safe h
  · exact lineMarking_safe h
  · exact radioByte_safe _ (lineMarking_safe h)

theorem serviceCharacter_safe (data : Byte) (marker stopOk : Bool) {s : State} (h : MotionKept true s) :
    MotionKept true (serviceCharacter data marker stopOk s) := by
  unfold serviceCharacter; repeat' split
  · exact serviceRx_safe _ _ h
  · exact serviceRx_safe _ _ h
  · exact h
  · exact h
  · exact serviceByte_safe _ h

theorem radioFrameComplete_safe (check : Byte) {s : State} (h : MotionKept true s) :
    MotionKept true (radioFrameComplete check s) :=
  .ite (radioByte_safe _ (lineMarking_safe h)) h

theorem serviceFrameComplete_safe (check : Byte) {s : State} (h : MotionKept true s) :
    MotionKept true (serviceFrameComplete check s) :=
  .ite (serviceByte_safe _ h) h

theorem lineBreak_safe {s : State} (h : MotionKept true s) : MotionKept true (lineBreak s) :=
  .ite (addCause_safe _ (fun l => by simp [withLinkBreak, StopLatch.held])
    (radioRx_safe _ _ ((LinkLane.modRadio s _).safe h))) h

end Sys2Proof.Machine
end

