-- ==== Sys2Proof/Laws/PerInstr.lean ====
section
/-! SUPPORT. The family Framing: the frame by which a party sends a command has fields that fit the bytes that R143
gives them. One lemma for each command; a command that is no frame spells none. -/

namespace Sys2Proof.Laws.Framing

open Sys2Proof.Machine

/-- The frame that a well-formed command spells fits its bytes, whatever link carries it (R143, R149). -/
def Statement (i : Instr) : Prop :=
  ∀ (link : Link) (f : Frame), i.wellFormed = true → frameOf i = some (link, f) → f.Fits

theorem of_no_frame {i : Instr} (h : frameOf i = none) : Statement i := by
  intro link f _ hf
  rw [h] at hf
  cases hf

theorem of_frame {i : Instr} {l : Link} {g : Frame} (h : frameOf i = some (l, g))
    (hg : i.wellFormed = true → g.Fits) : Statement i := by
  intro link f hw hf
  rw [h] at hf
  cases hf
  exact hg hw

theorem throttle_fits {kind n a : Nat} {p : List Nat} (hk : kind < 256) (h : throttleOk n a = true)
    (hl : p.length ≤ 16) (hp : ∀ b ∈ p, b < 256) : Frame.Fits ⟨kind, n, a, p⟩ := by
  simp [throttleOk, senderOk, wordOk] at h
  exact ⟨hk, by simp only; omega, by simp only; omega, hl, hp⟩

theorem service_fits {kind : Nat} {p : List Nat} (hk : kind < 256) (hl : p.length ≤ 16) (hp : ∀ b ∈ p, b < 256) :
    Frame.Fits ⟨kind, 62, 0, p⟩ := ⟨hk, by simp only; omega, by simp only; omega, hl, hp⟩

theorem wordBytes_lt (n : Nat) : ∀ b ∈ wordBytes n, b < 256 := by
  intro b hb
  simp [wordBytes] at hb
  omega

theorem twoWords_lt (i v : Nat) : ∀ b ∈ wordBytes i ++ wordBytes v, b < 256 := fun b hb =>
  (List.mem_append.1 hb).elim (wordBytes_lt i b) (wordBytes_lt v b)

theorem step : Statement .step := of_no_frame rfl

theorem holdOffExpiry : Statement .holdOffExpiry := of_no_frame rfl

theorem telemetryExpiry : Statement .telemetryExpiry := of_no_frame rfl

theorem signalLossExpiry : Statement .signalLossExpiry := of_no_frame rfl

theorem watcherAgeOut : Statement .watcherAgeOut := of_no_frame rfl

theorem controlCycle : Statement .controlCycle := of_no_frame rfl

theorem retryExpiry : Statement .retryExpiry := of_no_frame rfl

theorem quietCountExpiry : Statement .quietCountExpiry := of_no_frame rfl

theorem bridgingLimitExpiry : Statement .bridgingLimitExpiry := of_no_frame rfl

theorem bemfReading (which : Fin 3) (polarity : Direction) (raw : Raw) :
    Statement (.bemfReading which polarity raw) := of_no_frame rfl

theorem vinReading (raw : Raw) : Statement (.vinReading raw) := of_no_frame rfl

theorem vsReading (raw : Raw) : Statement (.vsReading raw) := of_no_frame rfl

theorem thermistorReading (raw : Raw) : Statement (.thermistorReading raw) := of_no_frame rfl

theorem gapEnd : Statement .gapEnd := of_no_frame rfl

theorem currentReading (which : Fin 2) (raw : Raw) : Statement (.currentReading which raw) := of_no_frame rfl

theorem laborWindowClose : Statement .laborWindowClose := of_no_frame rfl

theorem sensorFallback : Statement .sensorFallback := of_no_frame rfl

theorem wheelPulse (time : Nat) : Statement (.wheelPulse time) := of_no_frame rfl

theorem effectsTick : Statement .effectsTick := of_no_frame rfl

theorem flickerUpdate (output : Fin 8) : Statement (.flickerUpdate output) := of_no_frame rfl

theorem fadeOutEnd (output : Fin 8) : Statement (.fadeOutEnd output) := of_no_frame rfl

theorem oneShotDone (output : Fin 8) : Statement (.oneShotDone output) := of_no_frame rfl

theorem puffExpiry : Statement .puffExpiry := of_no_frame rfl

theorem burstExpiry : Statement .burstExpiry := of_no_frame rfl

theorem purgeExpiry : Statement .purgeExpiry := of_no_frame rfl

theorem outputSample : Statement .outputSample := of_no_frame rfl

theorem headerReadDone (bytes : Vector Byte 64) : Statement (.headerReadDone bytes) := of_no_frame rfl

theorem entryReadDone (bytes : Vector Byte 16) : Statement (.entryReadDone bytes) := of_no_frame rfl

theorem refillDone (bytes : Vector Byte 32) : Statement (.refillDone bytes) := of_no_frame rfl

theorem saveWriteDone : Statement .saveWriteDone := of_no_frame rfl

theorem powerLoss : Statement .powerLoss := of_no_frame rfl

theorem powerUp (sample : Raw) : Statement (.powerUp sample) := of_no_frame rfl

theorem markClearDone (sample : Raw) : Statement (.markClearDone sample) := of_no_frame rfl

theorem persistWriteDone : Statement .persistWriteDone := of_no_frame rfl

theorem pendingRestartWriteDone (sample : Raw) : Statement (.pendingRestartWriteDone sample) := of_no_frame rfl

theorem rewriteWriteDone : Statement .rewriteWriteDone := of_no_frame rfl

theorem radioFrameComplete (check : Byte) : Statement (.radioFrameComplete check) := of_no_frame rfl

theorem serviceFrameComplete (check : Byte) : Statement (.serviceFrameComplete check) := of_no_frame rfl

theorem lineBreak : Statement .lineBreak := of_no_frame rfl

theorem decoderFree : Statement .decoderFree := of_no_frame rfl

theorem claim (sender address : Nat) (steal : Bool) : Statement (.claim sender address steal) :=
  of_frame rfl fun h => throttle_fits (by decide) h (by simp) (by cases steal <;> simp)

theorem release (sender address : Nat) : Statement (.release sender address) :=
  of_frame rfl fun h => throttle_fits (by decide) h (by simp) (by simp)

theorem drive (sender address stepNo : Nat) (direction : Direction) :
    Statement (.drive sender address stepNo direction) :=
  of_frame rfl fun h => by
    simp only [Instr.wellFormed, Bool.and_eq_true, byteOk, decide_eq_true_eq] at h
    refine throttle_fits (by decide) h.1 (by simp) ?_
    cases direction <;> simp [directionCode] <;> omega

theorem func (sender address : Nat) (function : Fin 32) (action : FuncAction) :
    Statement (.func sender address function action) :=
  of_frame rfl fun h => throttle_fits (by decide) h (by simp) (by
    have := function.isLt
    cases action <;> simp [actionCode] <;> omega)

theorem estop (sender address : Nat) : Statement (.estop sender address) :=
  of_frame rfl fun h => throttle_fits (by decide) h (by simp) (by simp)

theorem query (source : Source) : Statement (.query source) :=
  match source with
  | .throttle _ _ => of_frame rfl fun h => throttle_fits (by decide) h (by simp) (by simp)
  | .setupTool => of_frame rfl fun _ => service_fits (by decide) (by simp) (by simp)

theorem consistJoin (sender address consist : Nat) (orientation : Orientation) (role : ConsistRole) :
    Statement (.consistJoin sender address consist orientation role) :=
  of_frame rfl fun h => by
    simp only [Instr.wellFormed, Bool.and_eq_true] at h
    refine throttle_fits (by decide) h.1 (by simp [wordBytes]) fun b hb => ?_
    rcases List.mem_append.1 hb with hb | hb
    · exact wordBytes_lt consist b hb
    · cases orientation <;> cases role <;> simp [orientationCode, roleCode] at hb <;> omega

theorem consistLeave (sender address : Nat) : Statement (.consistLeave sender address) :=
  of_frame rfl fun h => throttle_fits (by decide) h (by simp) (by simp)

theorem set (source : Source) (index value : Nat) : Statement (.set source index value) :=
  match source with
  | .throttle _ _ => of_frame rfl fun h => by
    simp only [Instr.wellFormed, Source.wellFormed, Bool.and_eq_true] at h
    exact throttle_fits (by decide) h.1 (by simp [wordBytes]) (twoWords_lt index value)
  | .setupTool => of_frame rfl fun _ => service_fits (by decide) (by simp [wordBytes]) (twoWords_lt index value)

theorem get (source : Source) (index : Nat) : Statement (.get source index) :=
  match source with
  | .throttle _ _ => of_frame rfl fun h => by
    simp only [Instr.wellFormed, Source.wellFormed, Bool.and_eq_true] at h
    exact throttle_fits (by decide) h.1 (by simp [wordBytes]) (wordBytes_lt index)
  | .setupTool => of_frame rfl fun _ => service_fits (by decide) (by simp [wordBytes]) (wordBytes_lt index)

theorem haltAll : Statement .haltAll :=
  of_frame rfl fun _ => ⟨by decide, by decide, by decide, by decide, by simp⟩

theorem resumeAll : Statement .resumeAll :=
  of_frame rfl fun _ => ⟨by decide, by decide, by decide, by decide, by simp⟩

theorem credit (n : Nat) : Statement (.credit n) :=
  of_frame rfl fun h => by
    simp only [Instr.wellFormed, byteOk, decide_eq_true_eq] at h
    exact ⟨by simp only [kindCredit]; omega, by simp, by simp, by simp, by simp; omega⟩

theorem restart : Statement .restart :=
  of_frame rfl fun _ => service_fits (by decide) (by simp) (by simp)

theorem defaults : Statement .defaults :=
  of_frame rfl fun _ => service_fits (by decide) (by simp) (by simp)

theorem identify : Statement .identify :=
  of_frame rfl fun _ => service_fits (by decide) (by simp) (by simp)

theorem replySent : Statement .replySent := of_no_frame rfl

theorem serviceReplySent : Statement .serviceReplySent := of_no_frame rfl

theorem radioCharacter (data : Byte) (marker stopOk : Bool) :
    Statement (.radioCharacter data marker stopOk) := of_no_frame rfl

theorem serviceCharacter (data : Byte) (marker stopOk : Bool) :
    Statement (.serviceCharacter data marker stopOk) := of_no_frame rfl

theorem passageToMarking : Statement .passageToMarking := of_no_frame rfl

end Sys2Proof.Laws.Framing
end

