-- ==== Sys2Proof/Tests/Slice0.lean ====
section
/-! SUPPORT. Small tests of single commands on small states, with the figures that the specification's worked examples
give, an ill-formed command for each check of WellFormed, and for each statement with hypotheses a state that meets
them. -/

namespace Sys2Proof.Tests

set_option Elab.async false

open Sys2Proof.Machine

/-! ### Small states -/

/-- Some settings take the values given. -/
def withSettings (ws : List (Nat × Nat)) (s : State) : State := ws.foldl (fun s e => storeSetting e.1 e.2 s) s

/-- The command has a next state, of which the test holds. -/
def after (c : Instr) (s : State) (p : State → Bool) : Bool :=
  match exec c s with
  | .next t => p t
  | _ => false

/-- The part of these tests: right after reset, with some settings. -/
def part (ws : List (Nat × Nat)) : State := withSettings ws State.reset

/-- Throttle 7 is the Driver at the loco address 3; throttle 12 watches. -/
def driven (ws : List (Nat × Nat)) : State :=
  { part ws with ct := { State.reset.ct with entries := [⟨12, .watcher, 5⟩, ⟨7, .driver .loco false, 2⟩] } }

/-- The ramp stands at R, F, under a target, with a travel direction. -/
def moving (r f tEff : Nat) (ws : List (Nat × Nat)) : State :=
  { part ws with slu := { State.reset.slu with r := r, f := f, tEff := tEff } }

/-- The locomotive drives at R with the duty and integral given. -/
def driving (r : Nat) (i16 : Int) (d : Nat) (ws : List (Nat × Nat)) : State :=
  { moving r 0 r ws with ml := { State.reset.ml with bridge := .drive, i16 := i16, d := d, inGap := false } }

/-- The smoke unit in a state, at a temperature. -/
def smoking (st : SmokeState) (temp : Int) (ws : List (Nat × Nat)) : State :=
  { part ws with sc := { State.reset.sc with smoke := st, temp := some temp } }

/-- The power supervisor in a state. -/
def powered (p : PowerState) (ws : List (Nat × Nat)) : State :=
  { part ws with ps := { State.reset.ps with power := p } }

/-- One light generator as given. -/
def lit (k : Fin 8) (g : Gen) (ws : List (Nat × Nat)) : State :=
  { part ws with fe := { State.reset.fe with gens := State.reset.fe.gens.set k g } }

/-- A nonvolatile write in transfer. -/
def writing (w : NvPurpose × NvJob) (ws : List (Nat × Nat)) : State :=
  { part ws with nv := { State.reset.nv with write := some w } }

/-! ### Which commands are well formed (R149) -/

theorem test_sender_zero_ill_formed : (Instr.claim 0 3 false).wellFormed = false := by decide
theorem test_sender_sixty_ill_formed : (Instr.release 60 3).wellFormed = false := by decide
theorem test_address_ill_formed : (Instr.estop 7 65536).wellFormed = false := by decide
theorem test_step_number_ill_formed : (Instr.drive 7 3 256 .fwd).wellFormed = false := by decide
theorem test_func_sender_ill_formed : (Instr.func 0 3 5 .set).wellFormed = false := by decide
theorem test_query_sender_ill_formed : (Instr.query (.throttle 60 3)).wellFormed = false := by decide
theorem test_consist_zero_ill_formed : (Instr.consistJoin 7 3 0 .normal .lead).wellFormed = false := by decide
theorem test_consist_ten_thousand_ill_formed : (Instr.consistJoin 7 3 10000 .normal .lead).wellFormed = false := by
  decide
theorem test_leave_sender_ill_formed : (Instr.consistLeave 0 3).wellFormed = false := by decide
theorem test_set_index_ill_formed : (Instr.set .setupTool 65536 0).wellFormed = false := by decide
theorem test_set_value_ill_formed : (Instr.set .setupTool 1 65536).wellFormed = false := by decide
theorem test_get_index_ill_formed : (Instr.get .setupTool 65536).wellFormed = false := by decide
theorem test_credit_ill_formed : (Instr.credit 256).wellFormed = false := by decide
theorem test_bounds_well_formed :
    (Instr.drive 59 65535 255 .rev).wellFormed = true ∧
      (Instr.consistJoin 1 0 9999 .reversed .trail).wellFormed = true ∧
      (Instr.set .setupTool 65535 65535).wellFormed = true ∧ (Instr.credit 255).wellFormed = true := by decide
theorem test_no_word_spells_a_command : decodeTableWord 32 3 = none := by decide

/-! ### Speed law (chapter 1) -/

/-- The curve of chapter 1's worked figures. -/
def curve : List (Nat × Nat) := [(64, 40), (65, 100), (69, 500), (70, 455), (77, 900), (78, 1023)]

/-- A target step and a requested direction. -/
def asked (n : Nat) (d : Direction) (ws : List (Nat × Nat)) : State :=
  { part ws with
    ct := { State.reset.ct with target := n, requested := d }, slu := { State.reset.slu with travel := d } }

theorem test_curve_values :
    (curveValue (part curve) 1, curveValue (part curve) 7, curveValue (part curve) 8) = (47, 92, 100) ∧
      (curveValue (part curve) 43, curveValue (part curve) 111, curveValue (part curve) 112) = (484, 1007, 1023) := by
  decide +kernel

theorem test_reverse_trim : effectiveTarget (asked 43 .rev ((9, 140) :: curve)) = 529 := by decide +kernel

theorem test_shunt_halves :
    effectiveTarget
      { asked 43 .rev ((9, 140) :: curve) with fe := { State.reset.fe with shunt := true } } = 264 := by
  decide +kernel

theorem test_forward_trim_limits : effectiveTarget (asked 111 .fwd ((8, 255) :: curve)) = 1023 := by decide +kernel

/-- Ticks 2 and 5 of the acceleration to a low target. -/
theorem test_controlCycle_accelerates :
    after .controlCycle (moving 2 8 12 [(5, 40)]) (fun t => t.slu.r == 5 && t.slu.f == 0) = true ∧
      after .controlCycle (moving 10 0 12 [(5, 40)]) (fun t => t.slu.r == 12 && t.slu.f == 0) = true := by
  decide +kernel

/-- Tick 50 of the reversal at speed. -/
theorem test_controlCycle_turns :
    after .controlCycle
      { asked 24 .rev [(67, 150), (9, 112), (6, 48)] with slu := { State.reset.slu with r := 3 } }
      (fun t => t.slu.r == 0 && t.slu.travel == .rev && t.slu.tEff == 131) = true := by
  decide +kernel

/-- Tick 5 of the braking during a slowdown. -/
theorem test_brake_tick : rampStep 295 0 100 200 false = (283, 8) := by decide

theorem test_holdOffExpiry :
    after .holdOffExpiry
      { asked 24 .fwd [(67, 150), (10, 30)] with
        slu := { State.reset.slu with permit := .holding, holdOff := some 30 } }
      (fun t => t.slu.permit == .granted && t.slu.holdOff == none && t.slu.tEff == 150) = true := by
  decide +kernel

/-! ### Motor (chapter 2) -/

theorem test_bemfReading :
    after (.bemfReading 1 .fwd 612) State.reset (fun t => t.scan.bemf2 == 612) = true ∧
      after (.bemfReading 1 .rev 612) State.reset (fun t => t.scan.bemf2 == 0) = true := by
  decide +kernel

/-- The steady climb: M 191, I16 418, D 244. -/
theorem test_gapEnd_climbs :
    after .gapEnd
      { driving 200 400 0 [] with scan := { State.reset.scan with bemf1 := 612, bemf2 := 598, bemf3 := 640 } }
      (fun t => t.ml.m == 191 && t.ml.i16 == 418 && t.ml.d == 244 && t.ml.bridge == .drive) = true := by
  decide +kernel

/-- The first gap end of the chain and matcher run, with M 700 from a median of 2240. -/
theorem test_gapEnd_chain :
    after .gapEnd
      { driving 640 0 0 [(16, 300), (128, 3), (130, 48), (133, 12), (140, 12), (143, 600), (144, 1023), (145, 256)] with
        scan := { State.reset.scan with bemf1 := 2240, bemf2 := 2240, bemf3 := 2240 }
        mt := { State.reset.mt with pa := 250, chuff := 3, revolution := 3, odometer := 10000 } }
      (fun t => t.mt.pa == 50 && t.mt.chuff == 2 && t.mt.revolution == 4 && t.mt.odometer == 10001 &&
        t.se.queue.map (fun c => (c.kind, c.chuff)) ==
          [(.ambient, none), (.chuffLight, some 2), (.direct, none)]) = true := by
  decide +kernel

/-- Cycle 1 of the holding at the current limit. -/
theorem test_currentReading_limits :
    after (.currentReading 1 1400)
      { driving 800 0 800 [] with scan := { State.reset.scan with currentA := 330 } }
      (fun t => t.scan.currentB == 350 && t.ml.dcap == 896 && t.ml.d == 800 && t.mt.windowSum == 340) = true := by
  decide +kernel

/-- The first of the three trips. -/
theorem test_currentReading_trips :
    after (.currentReading 0 2560) (driving 800 9 800 [])
      (fun t => t.ml.bridge == .tripped && t.ml.tripCounter == 1 && t.ml.quiet == some 0 && t.ml.retry == some 0 &&
        t.ml.d == 0 && t.ml.i16 == 0) = true := by
  decide +kernel

theorem test_retryExpiry :
    after .retryExpiry { State.reset with ml := { State.reset.ml with bridge := .tripped, retry := some 64, dcap := 700 } }
      (fun t => t.ml.bridge == .coast && t.ml.retry == none && t.ml.dcap == 512) = true := by
  decide +kernel

theorem test_quietCountExpiry :
    after .quietCountExpiry { State.reset with ml := { State.reset.ml with tripCounter := 2, quiet := some 640 } }
      (fun t => t.ml.tripCounter == 0 && t.ml.quiet == none) = true := by
  decide +kernel

/-! ### Motion Tracker (chapter 3) -/

/-- SENSOR in effect, Chuff at 1, the last accepted pulse at 0 ms. -/
def sensed (silent : Nat) : State :=
  { part [(18, 1)] with
    mt := { State.reset.mt with source := .sensor, chuff := 1, lastPulse := some 0, silent := silent } }

/-- The bounce at 2.5 ms, and the pulse at 61 ms. -/
theorem test_wheelPulse :
    after (.wheelPulse 2500) (sensed 0) (fun t => t.mt.chuff == 1) = true ∧
      after (.wheelPulse 61000) (sensed 0) (fun t => t.mt.chuff == 2) = true := by
  decide +kernel

/-- The fallback at 250, with M 220. -/
theorem test_sensorFallback :
    after .sensorFallback { sensed 250 with ml := { State.reset.ml with m := 220 } }
      (fun t => t.mt.source == .synth && t.mt.pa == 220 && t.mt.fallback && t.mt.chuff == 1) = true := by
  decide +kernel

/-- Windows 1 and 3 of the labor rise and fall. -/
theorem test_laborWindowClose :
    after .laborWindowClose { State.reset with mt := { State.reset.mt with windowSum := 3040, windowCount := 16 } }
        (fun t => t.mt.l == 161 && t.mt.labor == .heavy && t.se.queue.map (·.kind) == [.ambient, .laborUp]) = true ∧
      after .laborWindowClose
        { State.reset with mt := { State.reset.mt with windowSum := 2200, windowCount := 16, labor := .heavy } }
        (fun t => t.mt.l == 116 && t.mt.labor == .light) = true := by
  decide +kernel

/-! ### Lights (chapter 4) -/

/-- The three profiles and the three entries of the contest for LT2. -/
def contest : List (Nat × Nat) :=
  [(26, 30), (182, 5), (183, 160), (184, 40), (185, 0), (186, 0), (187, 20), (188, 1), (189, 200), (190, 50),
    (191, 25), (192, 25), (193, 256), (272, 5), (274, 3), (275, 3), (296, 32), (297, 3), (298, 3), (299, 1), (304, 6),
    (306, 3), (307, 2)]

/-- Tick 2 of the contest: the fade-out falls to 140. -/
theorem test_effectsTick_fades :
    after .effectsTick (lit 2 ⟨some 10, .fadingOut, 0, 0, 0, 160, 160, 160⟩ contest)
      (fun t => t.fe.gens[2].fade == 140 && t.fe.gens[2].brightness == 140 && t.fe.gens[2].st == .fadingOut &&
        t.fe.lightEstimate == 16) = true := by
  decide +kernel

/-- Tick 85 of the contest: the BLINK is dark at q 25. -/
theorem test_effectsTick_blinks :
    after .effectsTick (lit 2 ⟨some 12, .running, 24, 24, 0, 0, 200, 200⟩ contest)
      (fun t => t.fe.gens[2].q == 25 && t.fe.gens[2].run == 25 && t.fe.gens[2].brightness == 0) = true := by
  decide +kernel

/-- Tick 9 of the contest: entry 12 takes the output. -/
theorem test_fadeOutEnd :
    let s := lit 2 ⟨some 10, .fadingOut, 0, 0, 0, 0, 0, 0⟩ contest
    after (.fadeOutEnd 2) { s with fe := { s.fe with active := s.fe.active.set 12 true } }
      (fun t => t.fe.gens[2].driving == some 12 && t.fe.gens[2].st == .running && t.fe.gens[2].brightness == 200 &&
        t.fe.lightEstimate == 23) = true := by
  decide +kernel

/-- Tick 110 of the contest: r has reached 50. -/
theorem test_oneShotDone :
    after (.oneShotDone 2) (lit 2 ⟨some 12, .running, 0, 50, 0, 0, 200, 200⟩ contest)
      (fun t => t.fe.gens[2].st == .done && t.fe.gens[2].value == 0) = true := by
  decide +kernel

/-- Update 1 of the flicker figures, with entry 0 a light on profile 0. -/
theorem test_flickerUpdate :
    after (.flickerUpdate 0) (lit 0 ⟨some 0, .running, 0, 0, 0, 0, 0, 0⟩ [(176, 4), (177, 180)])
      (fun t => t.fe.noise == 0xE270#16 && t.fe.gens[0].value == 228 && t.fe.gens[0].countdown == 2) = true := by
  decide +kernel

/-! ### Smoke (chapter 5) -/

theorem test_temperatures :
    [150, 2410, 2650, 2899, 3800].map (thermTemperature State.reset) = [0, 191, 215, 239, 340] := by
  decide +kernel

/-- Reading 4080: the thermistor fault, and a well that runs dry. -/
theorem test_thermistorReading :
    after (.thermistorReading 4080) (smoking .ready 218 [])
      (fun t => t.sc.temp == some 340 && t.sc.thermFault && t.sc.smoke == .dry) = true := by
  decide +kernel

theorem test_puffExpiry :
    let s := smoking .ready 218 []
    after .puffExpiry { s with sc := { s.sc with puff := some 8, puffLimit := 8, fan := 200 } }
      (fun t => t.sc.puff == none && t.sc.fan == 0) = true := by
  decide +kernel

theorem test_burstExpiry :
    let s := smoking .ready 218 [(19, 1)]
    after .burstExpiry { s with sc := { s.sc with burst := some 200, fan := 255 } }
      (fun t => t.sc.burst == none && t.sc.fan == 40) = true := by
  decide +kernel

theorem test_purgeExpiry :
    let s := smoking .off 218 []
    after .purgeExpiry { s with sc := { s.sc with purge := some 500, purgeLimit := 500, fan := 255 } }
      (fun t => t.sc.purge == none && t.sc.fan == 0) = true := by
  decide +kernel

/-! ### Sound (chapter 6) -/

/-- A sounding voice with one sample in its buffer. -/
def sounding (st : VoiceState) (cls : PlayClass) (step volume : Nat) (buffer : List Sample) : Voice :=
  { Voice.freed with
    st := st, cue := some ⟨.direct, 1, 0, .system, none⟩, cls := cls, baseStep := step, baseVolume := volume
    volume := volume, length := 9000, buffer := buffer }

/-- The four voices of chapter 6's worked output sample. -/
def mixing : State :=
  let s := moving 640 0 640 []
  let voices := s.se.voices
  let voices := voices.set 0 (sounding .playing .ambient 200 180 [9000])
  let voices := voices.set 1 (sounding .playing .chuff 256 192 [-21000])
  let voices := voices.set 4 (sounding .playing .oneShot 256 255 [14000])
  { s with se := { s.se with voices := voices.set 6 (sounding .playing .oneShot 300 200 []) } }

theorem test_outputSample :
    after .outputSample mixing
      (fun t => t.se.output == 3533 && t.se.pwm == 567 && t.se.voices[0].position == 246 &&
        t.se.voices[1].position == 316 && t.se.voices[6].position == 0) = true := by
  decide +kernel

theorem test_outputSample_dimmed :
    after .outputSample { mixing with ps := { State.reset.ps with power := .dimmed } }
      (fun t => t.se.output == 1766 && t.se.pwm == 539) = true := by
  decide +kernel

/-- A header: mark, project 0x0201, 3 sounds, and one record for each system kind. -/
def header (mark : Byte) : Vector Byte 64 :=
  (((((((Vector.replicate 64 (0 : Byte)).set 0 mark).set 1 0x5A).set 2 0x53).set 3 0x50).set 4 1).set 5 2).set 6 3

theorem test_headerReadDone :
    after (.headerReadDone (header 0x50)) State.reset
        (fun t => t.se.dir == .valid && t.se.soundCount == 3 && setting t 504 == 0x0201) = true ∧
      after (.headerReadDone (header 0)) State.reset
        (fun t => t.se.dir == .noProject && setting t 504 == 0 && t.se.queue == []) = true := by
  decide +kernel

/-- A voice opens for a cue: the entry read is in the port. -/
def opening : State :=
  let s := State.reset
  { s with se := { s.se with
      dir := .valid, port := .entry 64, queue := [], alloc := some 2
      voices := s.se.voices.set 2 { Voice.freed with st := .opening, cue := some ⟨.direct, 1, 6, .map 4, none⟩ } } }

/-- A sound entry: start 0x400, 1000 samples, no loop, base step 256, base volume 200, ONE_SHOT. -/
def entryBytes : Vector Byte 16 := #v[0, 4, 0, 0xE8, 3, 0, 0, 0, 0, 0, 0, 0, 0, 1, 200, 0]

theorem test_entryReadDone :
    after (.entryReadDone entryBytes) opening
      (fun t => t.se.alloc == none && t.se.voices[2].st == .playing && t.se.voices[2].start == 1024 &&
        t.se.voices[2].length == 1000 && t.se.voices[2].baseStep == 256 && t.se.voices[2].volume == 200) = true := by
  decide +kernel

/-- A refill in transfer for voice 4, whose buffer is empty. -/
def refilling : State :=
  let s := State.reset
  { s with se := { s.se with
      dir := .valid, queue := [], port := .refill 4 ((List.range 16).map (2 * ·)) 0 16
      voices := s.se.voices.set 4 { sounding .playing .oneShot 256 255 [] with refill := .inTransfer } } }

theorem test_refillDone :
    after (.refillDone (Vector.ofFn fun i : Fin 32 => BitVec.ofNat 8 i.val)) refilling
      (fun t => t.se.voices[4].buffer.take 2 == [0x0100#16, 0x0302#16] && t.se.voices[4].fetch == 16) = true := by
  decide +kernel

/-! ### Power (chapter 7) -/

/-- Cycles 100 and 101 of the interruption. -/
theorem test_vinReading_lost :
    after (.vinReading 123) State.reset (fun t => t.scan.vin == 12 && t.ps.lost == 1 && t.ps.power == .normal) = true ∧
      after (.vinReading 82) { State.reset with ps := { State.reset.ps with lost := 1 } }
        (fun t => t.ps.power == .bridging && t.ps.bridging == some 0 && t.ps.lost == 0) = true := by
  decide +kernel

/-- Cycle 293 of the interruption. -/
theorem test_vinReading_returns :
    let s := moving 400 0 400 []
    after (.vinReading 861)
      { s with
        ps := { s.ps with power := .coasting, back := 3 }, ml := { s.ml with m := 312, i16 := 90 }
        ct := { s.ct with target := 44 } }
      (fun t => t.ps.power == .normal && t.ps.back == 0 && t.slu.r == 312 && t.slu.f == 0 && t.ml.i16 == 0) = true := by
  decide +kernel

/-- Cycles 180 and 240 of the interruption. -/
theorem test_vsReading_sheds :
    after (.vsReading 1106) (powered .bridging []) (fun t => t.scan.vs == 108 && t.ps.power == .dimmed) = true ∧
      after (.vsReading 809) (powered .dimmed []) (fun t => t.scan.vs == 79 && t.ps.power == .coasting) = true := by
  decide +kernel

/-- The dead rail: Vs 64 below 65 begins the save with the write of setting 5. -/
theorem test_vsReading_down :
    let s := powered .coasting []
    after (.vsReading 656)
      { s with ss := { s.ss with deferred := [(16, 900)], persist := [⟨5, false, false⟩, ⟨42, false, false⟩] } }
      (fun t => t.ps.power == .down && t.ss.deferred == [] && t.ps.stage == .persist &&
        t.nv.write == some (.save, .slot 5 40)) = true := by
  decide +kernel

theorem test_bridgingLimitExpiry :
    let s := powered .bridging []
    after .bridgingLimitExpiry { s with ps := { s.ps with bridging := some 2008 } }
      (fun t => t.ps.power == .coasting && t.ps.bridging == none) = true := by
  decide +kernel

/-- 20 ms into the save: the mark is written, and with no input the outputs go off. -/
theorem test_saveWriteDone :
    let s := powered .down []
    after .saveWriteDone
      { s with ps := { s.ps with stage := .mark }, nv := { s.nv with write := some (.save, .mark) } }
      (fun t => t.ps.stage == .ended && t.ps.outputsOff && t.nv.markPresent) = true := by
  decide +kernel

/-- R87, R96, R98: after the order a turn-off is taken where its purge raises no fan, and an ENGINE_START outside READY. -/
theorem test_smoke_after_the_order :
    let off : SmokeState → List (Nat × Nat) → State := fun st ws =>
      let s := smoking st 100 ws
      { s with ps := { s.ps with power := .down, stage := .ended, outputsOff := true } }
    (smokeEnableReport false (off .shed [(41, 0)])).sc.smoke = .off ∧
      (smokeEnableReport false (off .shed [(41, 5)])).sc.smoke = .shed ∧
      (smokeEngineStart (off .dry [(19, 1)])).sc.burst = some 0 ∧
      (smokeEngineStart (off .ready [(19, 1)])).sc.burst = none := by
  decide +kernel

theorem test_powerLoss :
    after .powerLoss (writing (.background, .slot 5 60) []) (fun t => t.phase == .off && t.nv.write == none) = true := by
  decide +kernel

theorem test_powerUp :
    after (.powerUp 4095) { State.reset with phase := .off } (fun t => t == State.reset) = true := by
  decide +kernel

theorem test_markClearDone :
    let s := writing (.restart, .clearMark) []
    after (.markClearDone 4095)
      { s with
        phase := .starting
        nv := { s.nv with markPresent := true, record := { ResumeRecord.blank with target := 40, driver := some (7, .loco) } } }
      (fun t => t.phase == .running && t.ps.restartKind == .warm && t.ct.target == 40 && t.nv.markPresent == false &&
        t.ct.entries == [⟨7, .driver .loco false, 0⟩]) = true := by
  decide +kernel

theorem test_persistWriteDone :
    let s := writing (.background, .slot 32 300) [(32, 300)]
    after .persistWriteDone { s with ss := { s.ss with persist := [⟨32, true, false⟩, ⟨42, false, false⟩] } }
      (fun t => t.nv.slots == [(32, 300)] && t.nv.write == some (.background, .slot 42 200) &&
        t.ss.persist == [⟨42, true, false⟩]) = true := by
  decide +kernel

theorem test_pendingRestartWriteDone :
    let s := writing (.pending, .odometer 77) []
    after (.pendingRestartWriteDone 4095) { s with ps := { s.ps with pendingRestart := some .commanded } }
      (fun t => t.ps.restartKind == .commanded && t.nv.odometer == 77 && t.mt.odometer == 77) = true := by
  decide +kernel

/-- R140: DOWN has abandoned the restart, and its Odometer write is the save's first; the Resume Record's is the second. -/
theorem test_pendingRestartWriteDone_counts_for_the_save :
    let s := writing (.pending, .odometer 77) []
    after (.vsReading 656)
        { s with
          ps := { s.ps with power := .coasting, pendingRestart := some .commanded }
          ss := { s.ss with writeStop := true } }
        (fun t => t.ps.stage == .odometer && t.nv.write == some (.pending, .odometer 77) &&
          after (.pendingRestartWriteDone 4095) t (fun u => u.ps.stage == .resume && u.nv.odometer == 77 &&
            u.nv.write == some (.save, .record (resumeContents t)))) = true := by
  decide +kernel

theorem test_rewriteWriteDone :
    let s := writing (.rewrite, .slot 3 0) []
    after .rewriteWriteDone { s with ss := { s.ss with rewrite := some 3 } }
      (fun t => t.ss.rewrite == some 5 && t.nv.write == some (.rewrite, .slot 5 40)) = true := by
  decide +kernel

/-! ### Links (chapter 8) -/

/-- The frame of a DRIVE from throttle 7 at address 3, step 40 FWD, but its check. -/
def driveBytes : List Byte := [0x03, 7, 0, 3, 2, 40, 0]

theorem test_drive_frame_bytes :
    (frameOf (.drive 7 3 40 .fwd)).map (fun p => p.2.bytes) = some [0x03, 7, 0, 3, 2, 40, 0, 201] := by decide +kernel

theorem test_radioFrameComplete :
    let s := driven []
    after (.radioFrameComplete 201) { s with radio := { s.radio with rx := .assembling, partialFrame := driveBytes } }
      (fun t => t.ct.target == 40 && t.radio.replies == [⟨7, .ack 3⟩] && t.radio.rx == .hunting) = true := by
  decide +kernel

theorem test_serviceFrameComplete :
    let s := driven []
    after (.serviceFrameComplete 0x9A)
      { s with service := { s.service with rx := .assembling, partialFrame := [0x22, 62, 0, 3, 0] } }
      (fun t => t.service.rx == .hunting && t.service.link == .idle) = true ∧
    after (.serviceFrameComplete 0x9D)
      { s with service := { s.service with rx := .assembling, partialFrame := [0x22, 62, 0, 3, 0] } }
      (fun t => t.service.link == .replying) = true := by
  decide +kernel

theorem test_lineBreak :
    after .lineBreak (driven []) (fun t => t.ct.latch.linkBreak && t.radio.spacing == 22) = true := by
  decide +kernel

theorem test_passageToMarking :
    let s := driven []
    after .passageToMarking { s with radio := { s.radio with spacing := 22 } } (fun t => t.radio.spacing == 0) = true := by
  decide +kernel

/-- The decoder becomes free with a slot and a frame waiting: the links alternate. -/
theorem test_decoderFree :
    let s := driven []
    after .decoderFree
      { s with
        decoder := ⟨true, .service⟩, radio := { s.radio with frames := [⟨6, 12, 3, []⟩] }
        service := { s.service with link := .waiting, slot := some ⟨6, 62, 0, []⟩ } }
      (fun t => t.decoder == ⟨true, .radio⟩ && t.radio.frames == [] && t.radio.replies == [⟨12, .status⟩] &&
        t.service.slot.isSome) = true := by
  decide +kernel

theorem test_radioCharacter :
    after (.radioCharacter 3 true true) State.reset
        (fun t => t.radio.rx == .assembling && t.radio.partialFrame == [3]) = true ∧
      after (.radioCharacter 3 false true) State.reset (fun t => t.radio.rx == .hunting) = true := by
  decide +kernel

theorem test_serviceCharacter :
    after (.serviceCharacter 0x22 true true) State.reset
        (fun t => t.service.rx == .assembling && t.service.partialFrame == [0x22]) = true ∧
      after (.serviceCharacter 0x22 true false) State.reset (fun t => t.service.rx == .hunting) = true := by
  decide +kernel

/-- The Reply Queue of chapter 8's worked example at the CREDIT. -/
def replies : List Reply :=
  [⟨7, .ack 4⟩, ⟨30, .refused 4 .notDriver⟩, ⟨7, .status⟩, ⟨30, .status⟩, ⟨7, .value 5 40⟩, ⟨7, .ack 9⟩, ⟨7, .ack 4⟩,
    ⟨7, .ack 3⟩]

/-- Time 0 of the worked example: n is 3, the ACK starts, 2 credits are left. -/
theorem test_credit :
    let s := driven []
    after (.credit 3) { s with radio := { s.radio with replies := replies } }
      (fun t => t.radio.credits == 2 && t.radio.sending == some ⟨0x40, 63, 3, [7, 4]⟩ &&
        t.radio.replies == replies.drop 1) = true := by
  decide +kernel

theorem test_replySent :
    let s := driven []
    after .replySent
      { s with radio := { s.radio with
          replies := replies.drop 1, credits := 2, sending := some ⟨0x40, 63, 3, [7, 4]⟩ } }
      (fun t => t.radio.credits == 1 && t.radio.sending == some ⟨0x41, 63, 3, [30, 4, 1]⟩) = true := by
  decide +kernel

/-- A full queue: the oldest STATUS gives its place to an ACK, and a new STATUS is discarded. -/
theorem test_full_reply_queue :
    let s := driven []
    let full := ⟨12, .status⟩ :: replies.take 7
    (queueReply 7 (.ack 3) { s with radio := { s.radio with replies := full } }).radio.replies =
        replies.take 7 ++ [⟨7, .ack 3⟩] ∧
      (queueReply 12 .status { s with radio := { s.radio with replies := replies } }).radio.replies = replies := by
  decide +kernel

theorem test_serviceReplySent :
    let s := driven []
    after .serviceReplySent
      { s with service := { s.service with link := .replying, reply := some ⟨0x40, 63, 3, [62, 9]⟩, busyOwed := some 0x20 } }
      (fun t => t.service.reply == some ⟨0x41, 63, 3, [62, 0x20, 8]⟩ && t.service.busyOwed == none) = true := by
  decide +kernel

theorem test_telemetryExpiry :
    let s := driven []
    after .telemetryExpiry { s with radio := { s.radio with telemetry := some 20 } }
      (fun t => t.radio.replies == [⟨7, .status⟩] && t.radio.telemetry == some 0) = true := by
  decide +kernel

/-! ### Control Table (chapter 9) -/

theorem test_step_ages :
    let s := driven []
    after .step { s with ct := { s.ct with entries := [⟨12, .watcher, 599⟩, ⟨7, .driver .loco false, 2⟩] } }
      (fun t => t.ct.entries == [⟨7, .driver .loco false, 3⟩]) = true := by
  decide +kernel

/-- The signal-loss expiry at 5.0 s of the worked example falls within a step. -/
theorem test_step_loses_signal :
    let s := driven []
    after .step
      { s with ct := { s.ct with entries := [⟨7, .watcher, 34⟩, ⟨12, .driver .loco false, 29⟩], target := 50 } }
      (fun t => t.ct.target == 0 && t.ct.entries == [⟨7, .watcher, 35⟩, ⟨12, .driver .loco true, 30⟩]) = true := by
  decide +kernel

/-- The same loss with Loss action ESTOP. -/
theorem test_signalLossExpiry :
    let s := driven [(55, 2)]
    after .signalLossExpiry
      { s with
        ct := { s.ct with entries := [⟨12, .driver .loco false, 30⟩], target := 50 }, slu := { s.slu with r := 300 } }
      (fun t => t.ct.target == 0 && t.ct.latch.signalLoss && t.slu.r == 0 && t.ml.bridge == .brake) = true := by
  decide +kernel

theorem test_watcherAgeOut :
    let s := driven []
    after .watcherAgeOut
      { s with ct := { s.ct with entries := [⟨12, .watcher, 600⟩, ⟨7, .driver .loco false, 600⟩] } }
      (fun t => t.ct.entries == [⟨7, .driver .loco false, 600⟩]) = true := by
  decide +kernel

/-- Times 1.0 and 1.4 of the worked example: a CLAIM without steal is refused, one with steal takes over. A STATUS that
starts at once names the new Driver (R162). -/
theorem test_claim :
    after (.claim 12 3 false) (driven [(57, 1)])
        (fun t => t.ct.entries == [⟨7, .driver .loco false, 2⟩, ⟨12, .watcher, 0⟩] &&
          t.radio.replies == [⟨12, .refused 1 .driverHeld⟩]) = true ∧
      after (.claim 12 3 true) (driven [(57, 1)])
        (fun t => t.ct.entries == [⟨7, .watcher, 2⟩, ⟨12, .driver .loco false, 0⟩] &&
          t.radio.replies == [⟨7, .status⟩, ⟨12, .ack 1⟩] && t.radio.telemetry == some 0) = true ∧
      after (.claim 12 3 true)
        { driven [(57, 1)] with radio := { State.reset.radio with credits := 1 } }
        (fun t => (t.radio.sending.bind fun f => f.payload[9]?) == some 12) = true := by
  decide +kernel

theorem test_release :
    after (.release 7 3) (driven [])
      (fun t => t.ct.entries == [⟨12, .watcher, 5⟩, ⟨7, .watcher, 0⟩] && t.radio.telemetry == none) = true := by
  decide +kernel

/-- Times 0.5 and 1.5 of the worked example. -/
theorem test_drive :
    after (.drive 7 3 40 .fwd) (driven []) (fun t => t.ct.target == 40 && t.radio.replies == [⟨7, .ack 3⟩]) = true ∧
      after (.drive 12 3 0 .fwd) (driven [])
        (fun t => t.ct.entries.map (·.id) == [7, 12] && t.radio.replies == [⟨12, .refused 3 .notDriver⟩]) = true := by
  decide +kernel

/-- Time 0.7 of the worked example: the MOMENTARY bell comes on with a PRESS and goes off with a RELEASE. -/
theorem test_func :
    let s := driven [(99, 1)]
    after (.func 7 3 3 .press) s (fun t => t.ct.functions[3]) = true ∧
      after (.func 7 3 3 .release) { s with ct := { s.ct with functions := s.ct.functions.set 3 true } }
        (fun t => !t.ct.functions[3]) = true := by
  decide +kernel

theorem test_estop :
    let s := driven []
    after (.estop 12 3) { s with slu := { s.slu with r := 300 }, ct := { s.ct with target := 50 } }
      (fun t => t.ct.latch.throttleEstop && t.ct.target == 0 && t.slu.r == 0 && t.ml.bridge == .brake &&
        t.radio.replies == [⟨12, .ack 5⟩]) = true := by
  decide +kernel

theorem test_haltAll :
    after .haltAll (driven []) (fun t => t.ct.latch.baseHalt && t.radio.replies == []) = true := by
  decide +kernel

theorem test_resumeAll :
    let s := driven []
    after .resumeAll { s with ct := { s.ct with latch := ⟨true, true, true, true⟩ } }
      (fun t => t.ct.latch == ⟨true, false, false, true⟩) = true := by
  decide +kernel

/-- Time 5.8 of the worked example: the least recently heard WATCHER gives its place to throttle 55. -/
theorem test_query :
    let s := driven []
    after (.query (.throttle 55 3))
      { s with ct := { s.ct with entries :=
          [⟨7, .watcher, 43⟩, ⟨12, .watcher, 38⟩, ⟨30, .driver .loco false, 4⟩, ⟨41, .watcher, 2⟩] } }
      (fun t => t.ct.entries.map (·.id) == [12, 30, 41, 55] && t.radio.replies == [⟨55, .status⟩]) = true := by
  decide +kernel

theorem test_consistJoin :
    after (.consistJoin 7 3 50 .reversed .trail) (driven [])
      (fun t => setting t 2 == 50 && setting t 3 == 3 && t.ss.persist.map (·.index) == [2, 3] &&
        t.radio.replies == [⟨7, .ack 7⟩]) = true := by
  decide +kernel

theorem test_consistLeave :
    after (.consistLeave 7 3) (driven []) (fun t => t.radio.replies == [⟨7, .refused 8 .notInConsist⟩]) = true ∧
      after (.consistLeave 7 3) (driven [(2, 50), (3, 3)])
        (fun t => setting t 2 == 0 && setting t 3 == 0 && t.radio.replies == [⟨7, .ack 8⟩]) = true := by
  decide +kernel

/-! ### Settings (chapter 10) -/

/-- Times 60 and 80 of the deferred address change. -/
theorem test_set :
    let s := driven []
    let run := { s with slu := { s.slu with r := 300 } }
    after (.set .setupTool 17 7) run
        (fun t => t.ss.deferred == [(17, 6)] && setting t 17 == 4 && t.ss.persist == []) = true ∧
      after (.set .setupTool 32 400) run
        (fun t => setting t 32 == 300 && t.ss.deferred == [] && t.nv.write == some (.background, .slot 32 300)) = true := by
  decide +kernel

/-- Time 84 of the deferred address change. -/
theorem test_set_class_locked :
    after (.set (.throttle 7 3) 16 800) (driven [])
      (fun t => t.radio.replies == [⟨7, .refused 9 .classLocked⟩] && setting t 16 == 600) = true := by
  decide +kernel

theorem test_get :
    after (.get .setupTool 1) (driven [])
      (fun t => t.service.reply == some ⟨0x43, 63, 3, [62, 0, 1, 0, 3]⟩) = true := by
  decide +kernel

theorem test_restart :
    after .restart (driven [])
      (fun t => t.ps.pendingRestart == some .commanded && t.service.reply == some ⟨0x40, 63, 3, [62, 0x20]⟩) = true := by
  decide +kernel

theorem test_defaults :
    after .defaults (driven [])
      (fun t => t.ss.rewrite == some 1 && t.nv.write == some (.rewrite, .slot 1 3) && setting t 5 == 40) = true := by
  decide +kernel

theorem test_identify :
    after .identify (driven [])
      (fun t => t.service.reply == some ⟨0x40, 63, 3, [62, 0x22, 0, 0, 2, 108, 0, 0, 0, 3, 0, 0, 0]⟩) = true := by
  decide +kernel

/-! ### What a changed map makes of an output (chapter 4) -/

/-- LT2 is driven as given, and entry 12 of the contest is active for it. -/
def shining (g : Gen) (ws : List (Nat × Nat)) : State :=
  let s := lit 2 g (contest ++ (296, 0) :: (304, 32) :: ws)
  { s with fe := { s.fe with active := s.fe.active.set 12 true } }

/-- An active entry that leaves FADE for BLINK restarts its output (R69). -/
theorem test_profile_change_restarts :
    let t := applySetting 307 2 (shining ⟨some 12, .running, 0, 40, 0, 120, 120, 120⟩ [(307, 1)])
    t.fe.gens[2] = ⟨some 12, .running, 0, 0, 0, 0, 200, 200⟩ := by
  decide +kernel

/-- A fading entry that is active again, but for another output, leaves its old one to the winner (R74). -/
theorem test_retargeted_entry_gives_way :
    let t := evaluateMap
      (shining ⟨some 10, .fadingOut, 0, 40, 0, 120, 120, 120⟩ [(296, 32), (297, 0), (298, 4)])
    t.fe.gens[2] = ⟨some 12, .running, 0, 0, 0, 0, 200, 200⟩ ∧ t.fe.gens[3].driving = some 10 := by
  decide +kernel

/-- A STROBE restarted by the evaluation that turns DIMMER on takes its dim level (R83). -/
theorem test_dimmed_strobe_restarts :
    let t := evaluateMap (shining Gen.off [(188, 2), (256, 32), (258, 15)])
    t.fe.dimmer = true ∧ t.fe.gens[2].value = 50 := by
  decide +kernel

/-! ### What a voice fetches (chapter 6) -/

/-- Entry 3 stands at byte 96; sample 5 of a sound that starts at 1024 at byte 1034 (R100). -/
theorem test_read_addresses :
    (Port.entry (entryAddress 3)).bytes = List.range' 96 16 ∧
      (Port.refill 0 (refillAddresses { sounding .playing .oneShot 256 255 [] with start := 1024, fetch := 5 }) 5 16).bytes.take 4 =
        [1034, 1035, 1036, 1037] := by
  decide +kernel

/-- A RELEASING voice that has passed two samples of its refill plays on from its position (R114, R117). -/
theorem test_releasing_voice_skips :
    let v := { sounding .releasing .ambient 256 255 [] with skip := 2, fetch := 40, position := 42 * 256 }
    let w := refilledVoice v 40 3 [11, 12, 13, 14]
    w.buffer = [13] ∧ w.skip = 0 ∧ w.fetch = 43 := by
  decide +kernel

/-! ### The queue -/

theorem test_step_takes_front :
    (match step { State.reset with pending := [.haltAll, .resumeAll] } with
      | .next t => t.ct.latch.baseHalt && t.pending == [.resumeAll]
      | _ => false) = true := by
  decide +kernel

theorem test_idle : (match step State.reset with | .next t => t == State.reset | _ => false) = true := by
  decide +kernel

/-! ### Witnesses: for each statement with hypotheses, states that meet them together, clause by clause -/

/-- A part under way, with a command waiting: it keeps every promise. -/
def promised : State := { driven [] with pending := [.drive 7 3 40 .fwd] }

theorem witness_StepTakesFront : (part []).pending = [] := by decide

theorem witness_StoppedPartIgnores :
    ({ State.reset with phase := .off }.phase ≠ .running ∧ Instr.step ≠ .powerLoss) ∧
      (Instr.claim 60 3 true).wellFormed = false := by
  decide

theorem witness_ColdRestartIsReset : 70 ≤ (717 : Raw).toNat * 100 / 1024 := by decide

/-- A store of slots in canonical form, a Resume Record with a Driver of each scope, and none. -/
theorem witness_RestartRestores :
    Store.wf [(2, 50), (5, 60)] = true ∧ (RestartKind.cold ≠ .warm ∧ RestartKind.warm = .warm) ∧
      ResumeRecord.blank.driver = none ∧
      { ResumeRecord.blank with driver := some (7, .loco) }.driver = some (7, .loco) ∧
      { ResumeRecord.blank with driver := some (7, .consist) }.driver = some (7, .consist) := by
  decide

/-- Maps in which the permit is granted, only required, and not required; whose entry 1 wins an output; and which switch
the smoke unit on. A restart in NORMAL and one in BRIDGING. -/
theorem witness_RestartRestores_map :
    let up : Raw → List (Nat × Nat) → State := fun sample ws =>
      performRestart .cold sample { State.reset with nv := { State.reset.nv with slots := ws } }
    let active : State → Fin 24 → Nat → Bool := fun t e n => t.fe.active[e] && setting t (258 + 4 * e.val) == n
    (70 ≤ (717 : Raw).toNat * 100 / 1024 ∧ (716 : Raw).toNat * 100 / 1024 < 70) ∧
      (let t := up 717 [(10, 30), (256, 32), (258, 14)]
       setting t 258 = 14 ∧ setting t 256 = 32 ∧ setting t 10 ≠ 0) ∧
      (let t := up 717 [(256, 5), (258, 14)]
       setting t 258 = 14 ∧ setting t 256 = 5 ∧ t.ct.functions[5] = false ∧ setting t 10 = 0) ∧
      (let t := up 716 [(19, 1), (260, 32), (261, 0), (262, 3), (264, 32), (266, 10)]
       active t 1 3 = true ∧ active t 0 3 = false ∧ active t 2 10 = true ∧ setting t 19 = 1) ∧
      (let t := up 717 []
       (∀ e : Fin 24, setting t (258 + 4 * e.val) ≠ 14 ∧ t.fe.active[e] = false) ∧ setting t 19 ≠ 1) ∧
      (let t := up 716 []
       ∀ e : Fin 24, setting t (258 + 4 * e.val) ≠ 14 ∧ active t e 9 = false) := by
  decide +kernel

theorem witness_PowerLossAndUp :
    let off := { State.reset with phase := .off }
    (off.phase = .off ∧ off.nv.markPresent = false) ∧
      (off.phase = .off ∧ { off.nv with markPresent := true }.markPresent = true) ∧ State.reset.phase ≠ .off ∧
      (writing (.restart, .clearMark) []).nv.write = some (.restart, .clearMark) ∧ State.reset.nv.write = none := by
  decide

theorem promised_steps : ∃ t, step promised = .next t := ⟨_, rfl⟩

theorem witness_StepKeepsMotionSafe : MotionSafe promised ∧ ∃ t, step promised = .next t :=
  ⟨⟨by decide, by unfold TargetCurrent; decide +kernel, by unfold LatchHoldsStill; decide, fun _ => rfl, fun _ => rfl⟩,
    promised_steps⟩

theorem promised_settings : SettingsSafe promised where
  working := ⟨rfl, settingDefault_inRange⟩
  deferredValues := by simp [promised, driven, part, withSettings, State.reset]
  deferredRoom := by decide
  deferredDistinct := by decide
  places := by decide
  atRest := fun _ => rfl
  placesDistinct := by decide
  odometer := by decide
  storedOdometer := by decide
  writtenOdometer := by intro p v h; cases h
  slots := rfl

theorem witness_StepKeepsChainSafe : SettingsSafe promised ∧ ChainSafe promised ∧ ∃ t, step promised = .next t :=
  ⟨promised_settings, ⟨by decide, by decide, by decide, by decide, by decide⟩, promised_steps⟩

theorem witness_StepKeepsMapCurrent :
    MapCurrent promised ∧ ReportsCurrent promised ∧ LightsCurrent promised ∧ ∃ t, step promised = .next t :=
  ⟨⟨by decide +kernel, by decide +kernel, by decide +kernel, by decide +kernel, by decide +kernel, by decide +kernel,
    by decide +kernel, by decide +kernel, by decide +kernel⟩,
    ⟨by decide +kernel, by decide +kernel, by decide +kernel, fun h => absurd h (by decide +kernel), by decide +kernel,
      by decide +kernel, by decide +kernel⟩,
    by unfold LightsCurrent; decide +kernel, promised_steps⟩

/-- A permit that is required and granted, and held off by its delay; an enable that is on, and a driven output. -/
def reported : State :=
  performRestart .cold 717
    { State.reset with nv := { State.reset.nv with
        slots := [(10, 30), (24, 50), (256, 32), (258, 14), (260, 32), (261, 0), (262, 10), (264, 32), (266, 1)] } }

theorem witness_StepKeepsMapCurrent_reports :
    ReportsCurrent reported ∧ LightsCurrent reported ∧ reported.fe.permitGranted = true ∧
      reported.fe.smokeEnable = true ∧ reported.fe.lightEstimate = 50 :=
  ⟨⟨by decide +kernel, by decide +kernel, by decide +kernel,
      fun _ => .inr ⟨by decide +kernel, 0, by decide +kernel, by decide +kernel⟩, by decide +kernel, by decide +kernel,
      by decide +kernel⟩,
    by unfold LightsCurrent; decide +kernel, by decide +kernel, by decide +kernel, by decide +kernel⟩

/-- A heating smoke unit keeps its promises, too. -/
def heating : State :=
  let s := smoking .preheat 180 []
  { s with sc := { s.sc with cap := 102, demand := 255, duty := 102 }, pending := [.thermistorReading 2410] }

theorem witness_StepKeepsHeaterSafe : HeaterSafe heating ∧ ∃ t, step heating = .next t :=
  ⟨⟨fun _ => rfl, fun _ => rfl, by decide, by decide⟩, _, rfl⟩

theorem witness_StepKeepsSoundBounded : SoundBounded promised.se ∧ ∃ t, step promised = .next t :=
  ⟨⟨by decide, by decide, by decide +kernel, by decide +kernel⟩, promised_steps⟩

theorem witness_StepKeepsRadioBounded : RadioBounded promised.radio ∧ ∃ t, step promised = .next t :=
  ⟨⟨by decide, by decide, by decide, by decide⟩, promised_steps⟩

theorem witness_StepKeepsControl :
    EntriesOk promised.ct.entries ∧ MomentaryHeld promised ∧ ∃ t, step promised = .next t :=
  ⟨⟨by decide, by decide, by decide⟩, by unfold MomentaryHeld; decide +kernel, promised_steps⟩

theorem witness_StepKeepsSettingsSafe : SettingsSafe promised ∧ ∃ t, step promised = .next t :=
  ⟨promised_settings, promised_steps⟩

theorem witness_FrameReadsBack :
    (Instr.drive 59 65535 255 .rev).wellFormed = true ∧
      frameOf (.drive 59 65535 255 .rev) = some (.radio, ⟨3, 59, 65535, [255, 1]⟩) ∧
      frameOf (.set .setupTool 504 65535) = some (.service, ⟨9, 62, 0, [1, 248, 255, 255]⟩) := by
  decide

/-- The longest frame that a link carries. -/
def longFrame : Frame := ⟨255, 255, 3, List.replicate 16 255⟩

theorem longFrame_fits : longFrame.Fits := ⟨by decide, by decide, by decide, by decide, by decide⟩

theorem witness_RadioFrameArrives :
    State.reset.phase = .running ∧ longFrame.Fits ∧ filterKeeps State.reset 255 255 3 = true :=
  ⟨rfl, longFrame_fits, by decide⟩

theorem witness_ServiceFrameArrives : State.reset.phase = .running ∧ longFrame.Fits := ⟨rfl, longFrame_fits⟩

theorem witness_ReceiversTestBytes :
    let s := State.reset
    let r := { s.radio with rx := .assembling, partialFrame := [1, 7, 0] }
    let v := { s.service with rx := .assembling, partialFrame := [9, 62, 0, 3] }
    s.phase = .running ∧ (r.rx = .assembling ∧ r.partialFrame = [1, 7, 0]) ∧
      ((r.rx = .assembling ∧ { r with partialFrame := [1, 7, 0, 3] }.partialFrame = [1, 7, 0, 3]) ∧ 16 < (17 : Byte).toNat) ∧
      (v.rx = .assembling ∧ v.partialFrame = [9, 62, 0, 3]) ∧ { r with rx := .ignoring }.rx = .ignoring := by
  decide

theorem witness_FramesPassOn :
    let awaiting : List Byte := [0x22, 62, 0, 3, 0]
    (5 ≤ awaiting.length ∧ awaiting.length = (awaiting.map (·.toNat)).getD 4 0 + 5) ∧
      (5 ≤ driveBytes.length ∧ driveBytes.length = (driveBytes.map (·.toNat)).getD 4 0 + 5) ∧
      (let frames : List Frame := [⟨6, 12, 3, []⟩, ⟨6, 7, 3, []⟩]
       let d : Decoder := ⟨true, .service⟩
       d.occupied = true ∧ frames = ⟨6, 12, 3, []⟩ :: [⟨6, 7, 3, []⟩] ∧ frames.length < 4) ∧
      (List.replicate 4 (⟨6, 12, 3, []⟩ : Frame)).length = 4 ∧ State.reset.service.slot = none ∧
      { State.reset.service with link := .replying }.link ≠ .idle ∧
      ({ State.reset.service with slot := some ⟨6, 62, 0, []⟩ }.slot = some ⟨6, 62, 0, []⟩ ∧
        (⟨true, .radio⟩ : Decoder).lastServed = .radio ∧ State.reset.decoder.occupied = false ∧
        State.reset.radio.frames = [] ∧ State.reset.service.link = .idle) ∧
      (readFrame .radio ⟨6, 12, 3, []⟩ = some (.query (.throttle 12 3)) ∧
        (Instr.query (.throttle 12 3)).wellFormed = true ∧ readFrame .radio ⟨99, 12, 3, []⟩ = none) ∧
      (readFrame .service ⟨6, 62, 0, []⟩ = some (.query .setupTool) ∧ readFrame .service ⟨99, 62, 0, []⟩ = none ∧
        State.reset.service.busyOwed = none ∧
        { State.reset.service with busyOwed := some 6 }.busyOwed = some 6) := by
  decide

theorem witness_CurveValue :
    (1 ≤ 1 ∧ 43 ≤ 112 ∧ 112 / 8 = 14 ∧ 111 / 8 ≠ 14) ∧ ∀ k, k < 15 → setting (part curve) (64 + k) ≤ 1023 := by
  decide +kernel

/-- A state in which no condition of R6 holds, and one for each that does. -/
theorem witness_EffectiveTarget :
    let s := asked 43 .rev curve
    (s.ct.target ≠ 0 ∧ s.ct.latch = StopLatch.empty ∧ s.ml.fault = false ∧ s.slu.permit = .notRequired ∧
        s.ct.requested = s.slu.travel) ∧
      State.reset.ct.target = 0 ∧ { s.ct.latch with linkBreak := true }.linkBreak = true ∧
      { s.ml with fault := true }.fault = true ∧ { s.slu with permit := .holding }.permit = .holding ∧
      (s.ct.requested ≠ { s.slu with travel := .fwd, r := 1 }.travel ∧ 0 < { s.slu with travel := .fwd, r := 1 }.r) := by
  decide +kernel

theorem witness_RampAverages : 0 < 40 ∧ 0 ≤ 12 ∧ 12 ≤ 12 := by decide

/-- Everything runs, one short of its set time; and the ramp frozen in COASTING. -/
theorem witness_CycleMovesRamp :
    let m := moving 2 8 12 []
    let s := { m with
      ml := { m.ml with bridge := .tripped, retry := some 62, quiet := some 638 }
      ps := { m.ps with power := .dimmed, bridging := some 1992 } }
    s.phase = .running ∧ (∀ n ∈ s.ml.retry, n + 1 < 64) ∧ (∀ n ∈ s.ml.quiet, n + 1 < 640) ∧
      (∀ ms ∈ s.ps.bridging, ms + 8 ≤ setting s 49) ∧ (s.ps.power ≠ .coasting ∧ s.ps.power ≠ .down) ∧
      (0 < s.slu.r ↔ 0 < (rampStep 2 8 12 (setting s 5) s.fe.momentumOff).1) ∧ s.slu.r ≠ 0 ∧
      { s.ps with power := .coasting }.power = .coasting := by
  decide +kernel

/-- A stop from R 2, with settings deferred, a start from rest, a turn that falls due; a map without targets. -/
theorem witness_CycleMovesRamp_crossing :
    let crossing : State → Bool := fun s =>
      decide (0 < s.slu.r) !=
        decide (0 < (rampStep s.slu.r s.slu.f s.slu.tEff (setting s 6) s.fe.momentumOff).1)
    let stop := moving 2 8 0 [(258, 0), (262, 0)]
    (crossing stop = true ∧ crossing (moving 0 8 12 [(6, 40)]) = true) ∧
      (stop.ps.power ≠ .coasting ∧ stop.ps.power ≠ .down ∧ stop.ss.working.wf = true) ∧ MapCurrent stop ∧
      (let a := asked 0 .fwd []
       a.slu.r = 0 ∧ a.ct.requested ≠ { a.slu with travel := .rev }.travel) ∧
      ((([(16, 900), (1, 5)] : List (Nat × Nat)).map (·.1)).Nodup ∧ (∀ v, (5, v) ∉ ([(16, 900)] : List (Nat × Nat)))) ∧
      ((∀ e : Fin 24, setting stop (258 + 4 * e.val) = 0) ∧ stop.ss.deferred = [] ∧ stop.se.mute = false) ∧
      (stop.ct.target ≤ 112 ∧ { stop.ct with target := 112 }.target ≤ 112) := by
  refine ⟨by decide +kernel, by decide, ?_, by decide +kernel, ⟨by decide, by simp⟩, by decide +kernel⟩
  exact ⟨by decide +kernel, by decide +kernel, by decide +kernel, by decide +kernel, by decide +kernel,
    by decide +kernel, by decide +kernel, by decide +kernel, by decide +kernel⟩

theorem witness_CycleCounts :
    let s := powered .bridging []
    s.phase = .running ∧ s.ml.quiet = none ∧ (638 + 1 < 640 ∧ 640 ≤ 639 + 1) ∧
      (let t := { s with ml := { s.ml with bridge := .tripped, retry := some 63, quiet := some 639 } }
       t.ml.bridge = .tripped ∧ t.ml.retry = some 63 ∧ t.ml.quiet = some 639 ∧ 64 ≤ 63 + 1 ∧ 62 + 1 < 64) ∧
      (s.ss.deferred = [] ∧ s.ps.power = .bridging ∧ { s.ps with bridging := some 1992 }.bridging = some 1992 ∧
        1992 + 8 ≤ setting s 49 ∧ setting s 49 < 1993 + 8) := by
  decide +kernel

theorem witness_TimersExpire :
    let s := driven [(10, 30)]
    s.phase = .running ∧
      ({ s.ml with bridge := .tripped, retry := some 64 }.retry = some 64 ∧ 64 ≤ 64 ∧ ∀ n ∈ (some 63 : Option Nat), n < 64) ∧
      ({ s.ml with quiet := some 640 }.quiet = some 640 ∧ 640 ≤ 640 ∧ ∀ n ∈ (some 639 : Option Nat), n < 640) ∧
      ({ s.ps with power := .bridging, bridging := some 2001 }.bridging = some 2001 ∧ setting s 49 < 2001 ∧
        ∀ ms ∈ (some 2000 : Option Nat), ms ≤ setting s 49) ∧
      ({ s.slu with holdOff := some 30 }.holdOff = some 30 ∧ setting s 10 ≤ 30 ∧
        ∀ n ∈ (some 29 : Option Nat), n < setting s 10) ∧
      ({ s.radio with telemetry := some 20 }.telemetry = some 20 ∧ setting s 53 ≤ 20 ∧
        driverEntry s = some ⟨7, .driver .loco false, 2⟩ ∧ ∀ n ∈ (some 19 : Option Nat), n < setting s 53) := by
  decide +kernel

theorem witness_StepRaisesAges : (driven []).phase = .running := by decide

/-- Every count one short of its set time after the step. -/
theorem witness_StepCounts :
    let d := driven [(10, 30)]
    let s := { d with slu := { d.slu with holdOff := some 28 }, radio := { d.radio with telemetry := some 18 } }
    let t := { s with ct := { s.ct with entries := [⟨12, .watcher, 6⟩, ⟨7, .driver .loco false, 29⟩] } }
    s.phase = .running ∧ (∀ e ∈ driverEntry t, 0 < setting s 54 ∧ driverLost t = false ∧ e.age < setting s 54) ∧
      (∀ n ∈ s.slu.holdOff, n + 1 < setting s 10) ∧ ∀ n ∈ s.radio.telemetry, n + 1 < setting s 53 := by
  decide +kernel

theorem witness_SignalLoss :
    let s := driven []
    let lost := { s with ct := { s.ct with entries := [⟨7, .driver .loco false, 30⟩] } }
    lost.phase = .running ∧ driverEntry lost = some ⟨7, .driver .loco false, 30⟩ ∧ lost.ss.deferred = [] ∧
      (0 < setting lost 54 ∧ setting lost 54 ≤ 30) ∧ 29 < setting lost 54 ∧ setting (driven [(54, 0)]) 54 = 0 ∧
      setting lost 55 = 0 ∧ setting (driven [(55, 1)]) 55 = 1 ∧ setting (driven [(55, 2)]) 55 = 2 ∧
      lost.ct.latch.held = false := by
  decide +kernel

/-- A moving locomotive with a setting deferred, whose Loss action is ESTOP. -/
theorem witness_SignalLoss_deferred :
    let s := moving 300 0 300 [(55, 2)]
    let lost := { s with
      ct := { s.ct with entries := [⟨7, .driver .loco false, 30⟩] }, ss := { s.ss with deferred := [(16, 900)] } }
    lost.phase = .running ∧ driverEntry lost = some ⟨7, .driver .loco false, 30⟩ ∧
      (0 < setting lost 54 ∧ setting lost 54 ≤ 30) ∧ setting lost 55 = 2 ∧ lost.ct.latch.held = false ∧
      lost.ss.deferred ≠ [] ∧ 0 < lost.slu.r ∧ lost.ml.bridge = .coast := by
  decide +kernel

theorem witness_GapDecides : (driving 200 400 0 []).phase = .running := by decide

/-- Readings 600 and 601 about the trip level of 600, with one trip and with two counted. -/
theorem witness_FirstCurrentTrips :
    let s := driving 800 9 800 []
    s.phase = .running ∧ s.ml.bridge = .drive ∧
      min 1023 (2400 * setting s 483 / 4096) ≤ min (2 * setting s 15) 800 ∧
      min (2 * setting s 15) 800 < min 1023 (2404 * setting s 483 / 4096) ∧
      { s.ml with tripCounter := 1 }.tripCounter < 2 ∧ 2 ≤ { s.ml with tripCounter := 2 }.tripCounter ∧
      State.reset.ml.bridge ≠ .drive := by
  decide +kernel

theorem witness_SecondCurrentShares :
    let s := driving 800 9 800 []
    s.phase = .running ∧ s.ml.bridge = .drive ∧ min 1023 (2400 * setting s 483 / 4096) ≤ min (2 * setting s 15) 800 ∧
      { s.mt with windowCount := 14 }.windowCount + 1 < 16 ∧ 16 ≤ { s.mt with windowCount := 15 }.windowCount + 1 ∧
      min (2 * setting s 15) 800 < min 1023 (2404 * setting s 483 / 4096) ∧ 2 ≤ { s.ml with tripCounter := 2 }.tripCounter := by
  decide +kernel

/-- The chain at the ends of its ranges; a silent count that reaches 249, and one that reaches 250, at M 220. -/
theorem witness_GapEndAdvancesChain :
    let rolling : Nat → State := fun silent => { sensed silent with
      scan := { State.reset.scan with bemf1 := 705, bemf2 := 705, bemf3 := 705 } }
    let s := { sensed 248 with mt := { State.reset.mt with chuff := 3, revolution := 255, odometer := 4294967295 } }
    (s.phase = .running ∧ s.ss.working.wf = true ∧ 0 < setting s 16 ∧ s.mt.chuff < setting s 17 ∧
        s.mt.revolution < 256 ∧ s.mt.odometer < 4294967296 ∧ s.mt.source = .synth) ∧
      ((rolling 248).mt.source = .sensor ∧ setting (rolling 248) 18 = 1 ∧
        after .gapEnd (rolling 248) (fun t => t.ml.m == 220 && t.mt.silent == 249) = true) ∧
      after .gapEnd (rolling 249) (fun t => t.ml.m == 220 && t.mt.silent == 250 && t.mt.source == .synth) = true ∧
      after .gapEnd
        { driving 640 0 0 [] with
          mt := { State.reset.mt with pa := 599, chuff := 3, odometer := 65535 }
          scan := { State.reset.scan with bemf1 := 705, bemf2 := 705, bemf3 := 705 } }
        (fun t => t.mt.odometer != 65535 && setting t 501 == 1) = true := by
  decide +kernel

theorem witness_WheelSensor :
    let s := sensed 0
    let synth := { State.reset.mt with lastPulse := some 0 }
    s.phase = .running ∧ ((∀ last ∈ s.mt.lastPulse, 3999 < last + 4000) ∧ ∀ last ∈ s.mt.lastPulse, last + 4000 ≤ 4000) ∧
      (synth.source = .synth ∧ synth.fallback = false ∧ ∀ last ∈ synth.lastPulse, last + 4000 ≤ 4000) ∧
      s.mt.source = .sensor ∧ { synth with fallback := true }.fallback = true ∧
      (setting s 18 = 1 ∧ (sensed 250).mt.source = .sensor ∧ 250 ≤ (sensed 250).mt.silent ∧
        (sensed 250).ml.m < setting s 16) ∧
      ((sensed 250).ss.working.wf = true ∧ 0 < setting s 16 ∧ s.mt.chuff < setting s 17 ∧ s.mt.revolution < 256 ∧
        s.mt.odometer < 4294967296 ∧ setting s 16 ≤ { s.ml with m := 1023 }.m) ∧
      setting State.reset 18 ≠ 1 ∧ (sensed 249).mt.silent < 250 := by
  decide +kernel

theorem witness_WindowCloses :
    State.reset.phase = .running ∧ 16 ≤ { State.reset.mt with windowCount := 16 }.windowCount ∧
      { State.reset.mt with windowCount := 15 }.windowCount < 16 := by
  decide

theorem witness_EffectsTickShapes :
    let s := lit 2 ⟨some 12, .running, 24, 24, 0, 0, 200, 200⟩ contest
    (s.phase = .running ∧ s.ps.outputsOff = false ∧ s.fe.gens[2].driving = some 12 ∧ s.fe.gens[2].st = .running ∧
        setting s (176 + 6 * (setting s (259 + 4 * 12) % 8)) ≤ 3) ∧
      setting s (176 + 6 * (setting s (259 + 4 * 10) % 8)) = 5 ∧
      (∀ n ∈ (some 6 : Option Nat), n + 1 < setting s 38) ∧ (∀ n ∈ (some 198 : Option Nat), n + 1 < 200) ∧
      (setting s 38 ≤ 7 + 1 ∧ 200 ≤ 199 + 1 ∧ setting s 41 ≤ 499 + 1) ∧ { s.ps with outputsOff := true }.outputsOff = true := by
  decide +kernel

/-- A FLICKER generator that counts down, takes its turn, and ends its one shot; a fade-out above 0 and at 0, with a winner
and without one; a DARK one. -/
theorem witness_EffectsTickShapes_flicker :
    let f := lit 0 ⟨some 0, .running, 0, 5, 0, 0, 90, 90⟩ [(176, 4), (177, 180)]
    let d := lit 2 ⟨some 10, .fadingOut, 0, 0, 0, 20, 20, 20⟩ contest
    (f.fe.gens[0].driving = some 0 ∧ f.fe.gens[0].st = .running ∧ setting f (176 + 6 * (setting f 259 % 8)) = 4 ∧
        f.fe.gens[0].countdown = 0 ∧ { f.fe.gens[0] with countdown := 2 }.countdown ≠ 0 ∧
        ∀ j : Fin 8, f.fe.gens[j].st ≠ .fadingOut) ∧
      (256 ≤ setting (part [(181, 256)]) 181 ∧
        max 3 (setting (part [(181, 256)]) 179 + setting (part [(181, 256)]) 180) ≤ min 1000 (999 + 1)) ∧
      (d.fe.gens[2].driving = some 10 ∧ d.fe.gens[2].st = .fadingOut ∧ setting d 187 % 256 = 20 ∧ 0 < 21 - 20 ∧
        d.fe.gens[2].fade - 20 = 0 ∧
        ∀ e : Fin 24, d.fe.active[e] = true → setting d (258 + 4 * e.val) ≠ 3) ∧
      (let active := d.fe.active.set 12 true
       active[12] = true ∧ setting d (258 + 4 * 12) = 3 ∧
         ∀ e : Fin 24, e < 12 → active[e] = true → setting d (258 + 4 * e.val) ≠ 3) ∧
      d.fe.gens[0].st = .dark := by
  decide +kernel

theorem witness_EffectExpiries :
    let f := lit 0 ⟨some 0, .running, 0, 0, 0, 0, 0, 0⟩ [(176, 4), (177, 180)]
    let o := lit 2 ⟨some 12, .running, 0, 50, 0, 0, 200, 200⟩ contest
    let d := lit 2 ⟨some 10, .fadingOut, 0, 0, 0, 0, 0, 0⟩ contest
    (f.fe.gens[0].driving = some 0 ∧ f.fe.gens[0].st = .running ∧
        setting f (176 + 6 * (setting f (259 + 4 * 0) % 8)) = 4 ∧ f.fe.gens[0].countdown = 0 ∧ f.ps.outputsOff = false ∧
        f.fe.noise ≠ 0) ∧
      (d.fe.gens[2].st = .fadingOut ∧ d.fe.gens[2].fade = 0 ∧
        (∀ e : Fin 24, d.fe.active[e] = true → setting d (258 + 4 * e.val) ≠ 3) ∧
        (let active := d.fe.active.set 12 true
         active[12] = true ∧ setting d (258 + 4 * 12) = 3 ∧
           ∀ e : Fin 24, e < 12 → active[e] = true → setting d (258 + 4 * e.val) ≠ 3)) ∧
      (o.fe.gens[2].st = .running ∧ setting o (176 + 6 * (setting o (259 + 4 * 12) % 8)) = 1 ∧
        256 ≤ setting o (181 + 6 * (setting o (259 + 4 * 12) % 8)) ∧
        max 1 (setting o (179 + 6 * 2) + setting o (180 + 6 * 2)) ≤ o.fe.gens[2].run) ∧
      49 < max 1 (setting o (179 + 6 * 2) + setting o (180 + 6 * 2)) ∧ setting f (181 + 6 * 0) < 256 ∧
      (State.reset.fe.gens[0].st ≠ .running ∧ State.reset.fe.gens[0].st ≠ .fadingOut) ∧
      (∀ n ∈ (some 7 : Option Nat), n < setting f 38) ∧ (∀ n ∈ (some 199 : Option Nat), n < 200) ∧
      ∀ n ∈ (some 499 : Option Nat), n < setting f 41 := by
  decide +kernel

/-- Readings at a point of the table, and at the bounds of the fault; wells that heat, run dry and are ready. -/
theorem witness_ThermistorReading :
    let s := smoking .preheat 180 []
    s.phase = .running ∧ s.sc.smoke = .preheat ∧ State.reset.sc.smoke = .off ∧ (39 < 40 ∧ 4050 < 4051) ∧
      (thermTemperature s 40 = 0 ∧ thermTemperature s 2400 = 190 ∧ thermTemperature s 4050 = 340) ∧
      ((setting s 32 : Int) + setting s 33 < 340 ∧ (setting s 32 : Int) - 10 ≤ 215) := by
  decide +kernel

/-- Smoke units that are off, wait in SHED and have run dry; temperatures at the bounds of ready and of dry. -/
theorem witness_ThermistorReading_enable :
    let s := smoking .off 210 []
    (s.sc.smoke = .off ∧ s.ps.power = .normal ∧ (powered .dimmed []).ps.power ≠ .normal) ∧
      ((smoking .shed 209 []).sc.smoke = .shed ∧ (smoking .ready 210 []).sc.smoke = .ready ∧
        (smoking .dry 210 []).sc.smoke = .dry ∧ s.ps.outputsOff = false) ∧
      ({ s.ps with outputsOff := true }.outputsOff = true ∧ setting (smoking .shed 209 []) 41 ≠ 0 ∧
        setting (smoking .shed 209 [(41, 0)]) 41 = 0) ∧
      (State.reset.sc.temp = none ∧ s.sc.temp = some 210 ∧ s.sc.thermFault = false ∧
        (setting s 32 : Int) - 10 ≤ 210 ∧ 209 < (setting s 32 : Int) - 10) ∧
      (210 ≤ (setting s 32 : Int) + setting s 33 ∧ (setting s 32 : Int) + setting s 33 < 341) ∧
      (PowerState.bridging ≠ .normal ∧ PowerState.dimmed ≠ .normal) := by
  decide +kernel

/-- A loop in force whose position comes one short of the loop end, and reaches it. -/
theorem witness_OutputSampleMixes_loop :
    let v := { sounding .looping .looped 256 255 [5] with loopOn := true, loopStart := 4, loopEnd := 10 }
    v.st = .looping ∧ v.loopOn = true ∧ v.loopStart < v.loopEnd ∧ v.buffer ≠ [] ∧
      ((8 * 256 + v.baseStep) / 256 < v.loopEnd ∧ v.loopEnd ≤ (9 * 256 + v.baseStep) / 256) := by
  decide

theorem witness_OutputSampleMixes :
    mixing.phase = .running ∧ mixing.ps.outputsOff = false ∧
      { mixing.ps with outputsOff := true }.outputsOff = true ∧
      (mixing.se.voices[2].st = .free ∧ mixing.se.voices[6].buffer = []) ∧
      (mixing.se.voices[0].st = .playing ∧ mixing.se.voices[0].loopOn = false ∧ mixing.se.voices[0].buffer ≠ [] ∧
        (mixing.se.voices[0].position + 246) / 256 < mixing.se.voices[0].length) ∧
      (9000 ≤ (2303754 + 246) / 256 ∧ (2303753 + 246) / 256 < 9000) := by
  decide +kernel

/-- An idle port with an entry read that waits, and without one, and a busy port; voices that have room for a refill. -/
theorem witness_OutputSampleMixes_port :
    { mixing.se with port := .idle }.port = .idle ∧ mixing.se.port ≠ .idle ∧
      { mixing.se with entryWaiting := some 64 }.entryWaiting = some 64 ∧ mixing.se.entryWaiting = none ∧
      mixing.se.voices[0].AsksRefill ∧ mixing.se.voices[0].refill = .none ∧
      after .outputSample { mixing with se := { mixing.se with port := .idle, lastServed := 4 } }
        (fun t => t.se.lastServed == 6 && t.se.voices[6].refill == .inTransfer && t.se.voices[0].refill == .pending) =
        true := by
  refine ⟨by decide, by decide, by decide, by decide, ?_, by decide, by decide +kernel⟩
  exact ⟨by decide, by decide, by decide⟩

theorem witness_HeaderReadDecides :
    State.reset.phase = .running ∧ State.reset.ss.working.wf = true ∧ State.reset.se.port = .header ∧
      opening.se.port ≠ .header ∧ State.reset.ps.outputsOff = false ∧
      { State.reset.ps with outputsOff := true }.outputsOff = true ∧
      ((header 0x50)[0] = 0x50 ∧ (header 0x50)[6] ≠ 0) ∧ (header 0)[0] ≠ 0x50 := by
  decide +kernel

/-- A queue without chuff cues that is full, with a cue of lowest priority in it, and one with a chuff cue; tables with a
sound and without one; an ambient sound and none. -/
theorem witness_HeaderReadDecides_cues :
    let q : List Cue := ⟨.direct, 3, 2, .map 5, none⟩ :: List.replicate 15 ⟨.direct, 3, 8, .map 1, none⟩
    let chuff : Cue := ⟨.chuffLight, 2, 4, .system, some 1⟩
    (State.reset.ps.outputsOff = false ∧ State.reset.se.dir = .checking) ∧
      (opening.se.dir = .valid ∧ opening.se.alloc ≠ none) ∧
      (chuff.kind = .chuffLight ∧ [chuff] = [] ++ chuff :: []) ∧
      (16 ≤ q.length ∧ q = [] ++ ⟨.direct, 3, 2, .map 5, none⟩ :: List.replicate 15 ⟨.direct, 3, 8, .map 1, none⟩ ∧
        (∀ x ∈ List.replicate 15 (⟨.direct, 3, 8, .map 1, none⟩ : Cue), 2 ≤ x.priority) ∧ 2 < 3 ∧
        (∀ d ∈ q, d.kind ≠ .chuffLight ∧ d.kind ≠ .chuffHeavy ∧ 2 ≤ d.priority)) ∧
      (CueKind.stopped.record = some 3 ∧ opening.se.cueTable[3].1 = 0 ∧
        (opening.se.cueTable.set 3 (7, 5))[3].1 ≠ 0) ∧
      (setting opening 19 ≠ 1 ∧ setting (part [(19, 1)]) 19 = 1) ∧
      ((∃ c ∈ State.reset.se.queue, c.kind = .ambient) ∧ ∀ c ∈ opening.se.queue, c.kind ≠ .ambient) ∧
      (∀ i : Fin 8, ∀ c ∈ opening.se.voices[i].cue, c.kind ≠ .ambient) ∧
      { sounding .looping .ambient 256 255 [] with cue := some ⟨.ambient, 3, 2, .system, none⟩ }.cue =
        some ⟨.ambient, 3, 2, .system, none⟩ := by
  decide +kernel

/-- An engine of eight voices in use, of which voice 1 is the older of the two with the lowest priority. -/
def crowded : Se :=
  { State.reset.se with
    soundCount := 3
    voices := Vector.ofFn fun i : Fin 8 =>
      { sounding .playing .oneShot 256 255 [] with
        cue := some ⟨.direct, 1, if i = 1 ∨ i = 3 then 2 else 5, .system, none⟩, order := 10 + i.val } }

/-- Engines that choose by the CHUFF class, a FREE voice, the lowest priority, and none; cues with a sound and without. -/
theorem witness_EntryReadOpens_choice :
    let direct : Nat → Cue := fun p => ⟨.direct, 3, p, .map 4, none⟩
    let s := { State.reset with se := { crowded with dir := .valid, port := .idle } }
    (mixing.se.voices[1].cls = .chuff ∧ mixing.se.voices[1].st ≠ .free ∧ mixing.se.voices[0].cls ≠ .chuff) ∧
      (opening.se.voices[0].st = .free ∧ ∀ j : Fin 8, opening.se.voices[j].cls ≠ .chuff) ∧
      ((∀ j : Fin 8, crowded.voices[j].st ≠ .free ∧ crowded.voices[j].cls ≠ .chuff) ∧
        chooseVoice crowded (direct 3) = some 1 ∧ chooseVoice crowded (direct 2) = none) ∧
      (1 ≤ (direct 3).sound ∧ (direct 3).sound ≤ s.se.soundCount ∧ s.se.port = .idle ∧
        { s.se with port := .header }.port ≠ .idle) ∧
      (let o := { opening.se with soundCount := 3, queue := [direct 3] }
       o.dir = .valid ∧ o.port = .entry 64 ∧ o.entryWaiting = none ∧ o.alloc = some 2 ∧
         chooseVoice { o with port := .idle, alloc := none, voices := o.voices.set 2 Voice.freed } (direct 3) = some 0) ∧
      (let o := { crowded with voices := crowded.voices.set 2 Voice.freed }
       chooseVoice o (direct 3) = some 2) := by
  decide +kernel

/-- An entry of the longest length kept, and one that ends at the end of the space. -/
theorem witness_EntryReadOpens :
    let s := opening
    (s.phase = .running ∧ s.ps.outputsOff = false ∧ s.se.queue = [] ∧ s.se.alloc = some 2 ∧
        s.se.voices[2].cue = some ⟨.direct, 1, 6, .map 4, none⟩ ∧ s.se.entryWaiting = none ∧ s.se.port = .entry 64) ∧
      State.reset.se.port = .header ∧
      (s.se.voices[2].cancel = false ∧ 0 < 8388607 ∧ 8388607 ≤ 8388607 ∧ 2 + 2 * 8388607 ≤ 16777216) ∧
      16777216 < 3 + 2 * 8388607 ∧
      (setting s 44 ≤ 255 ∧ setting s 45 ≤ 255 ∧ s.mt.l ≤ 255) := by
  decide +kernel

theorem witness_RefillBringsSamples :
    (refilling.phase = .running ∧ refilling.se.port = .refill 4 ((List.range 16).map (2 * ·)) 0 16 ∧ refilling.se.voices[4].refill = .inTransfer ∧
        refilling.se.voices[4].st ≠ .releasing ∧ refilling.se.voices[4].skip = 0 ∧ 16 ≤ 16 ∧
        refilling.se.voices[4].loopOn = false) ∧
      State.reset.se.port = .header ∧ State.reset.se.voices[4].refill ≠ .inTransfer := by
  decide

/-- A RELEASING voice whose fetch point stands, and one whose was set anew; loops whose next fetch falls short of the loop end
and on it; a waiting entry read; voices of an origin that hold a wrapped sample, and none. -/
theorem witness_RefillBringsSamples_loop :
    let v := { sounding .looping .looped 256 255 [1, 2, 3] with
      loopOn := true, loopStart := 4, loopEnd := 40, fetch := 3, cue := some ⟨.direct, 1, 8, .map 5, none⟩ }
    (v.fetch + 16 < v.loopEnd ∧ v.loopEnd ≤ { v with fetch := 24 }.fetch + 16 ∧ v.loopStart < v.loopEnd) ∧
      ({ v with st := .releasing }.fetch = 3 ∧ { v with st := .releasing, fetch := 5 }.fetch ≠ 3) ∧
      { refilling.se with entryWaiting := some 64 }.entryWaiting = some 64 ∧
      (v.cue = some ⟨.direct, 1, 8, .map 5, none⟩ ∧ v.st = .looping ∧
        v.fetch + v.skip = v.position / 256 + v.buffer.length ∧
        { v with fetch := 5 }.fetch + v.skip ≠ v.position / 256 + v.buffer.length) ∧
      (refilling.se.voices[0].st = .free ∧ opening.se.voices[2].st = .opening) := by
  decide

theorem witness_VinReadingCounts :
    let s := powered .normal []
    (s.phase = .running ∧ s.ps.power = .normal ∧ 60 ≤ 615 * 100 / 1024 ∧ 614 * 100 / 1024 < 60 ∧ s.ps.lost = 0 ∧
        { s.ps with lost := 1 }.lost ≠ 0) ∧
      ((powered .dimmed []).ps.power = .dimmed ∧ 70 ≤ 717 * 100 / 1024 ∧ 716 * 100 / 1024 < 70 ∧ 2 + 1 < 4 ∧ 4 ≤ 3 + 1) ∧
      (let c := powered .coasting []
       c.ps.power = .coasting ∧ c.ml.bridge ≠ .drive ∧ c.ss.deferred = [] ∧ c.ct.requested = c.slu.travel ∧
         (0 < c.slu.r ↔ 0 < min c.ml.m c.slu.tEff)) ∧
      (let m := { moving 300 0 500 [] with ml := { State.reset.ml with m := 200 } }
       0 < m.slu.r ↔ 0 < min m.ml.m m.slu.tEff) ∧
      ((smoking .shed 209 []).sc.smoke = .shed ∧ State.reset.sc.smoke ≠ .shed ∧
        (smoking .ready 210 []).sc.smoke = .ready) ∧
      (let d := { s.ps with power := .down, stage := .ended, back := 3 }
       d.power = .down ∧ d.stage = .ended ∧ min 4 (d.back + 1) = 4 ∧ { d with stage := .mark }.stage ≠ .ended ∧
         s.nv.write = none) := by
  decide +kernel

theorem witness_VsReadingSheds :
    let s := powered .bridging []
    let vs : Nat → Nat := fun raw => raw * 100 / 1024
    (s.phase = .running ∧ s.ps.power = .bridging) ∧
      (setting s 50 ≤ vs 1127 ∧ (setting s 51 ≤ vs 1126 ∧ vs 1126 < setting s 50)) ∧
      (setting s 52 ≤ vs 819 ∧ vs 819 < setting s 51) ∧ vs 665 < setting s 52 ∧ (powered .normal []).ps.power = .normal ∧
      (s.nv.write = none ∧ s.ss.persist = []) ∧ (writing (.background, .slot 5 60) []).nv.write ≠ none ∧
      { s.ss with persist := [⟨5, false, false⟩] }.persist = ⟨5, false, false⟩ :: [] ∧
      ((writing (.pending, .odometer 77) []).nv.write = some (.pending, .odometer 77) ∧
        (writing (.pending, .odometer 77) []).ss.persist = [] ∧
        ∀ v, (writing (.background, .slot 5 60) []).nv.write ≠ some (.pending, .odometer v)) := by
  refine ⟨by decide +kernel, by decide +kernel, by decide +kernel, by decide +kernel, by decide, by decide, by decide, by decide,
    by decide, by decide, fun v => ?_⟩
  simp [writing]

theorem witness_SaveWritesInOrder :
    let s := powered .down []
    let job : NvJob → State := fun j => { s with nv := { s.nv with write := some (.save, j) } }
    s.phase = .running ∧
      ((job (.slot 5 40)).nv.write = some (.save, .slot 5 40) ∧ { s.ps with stage := .persist }.stage = .persist ∧
        { s.ss with persist := [⟨5, true, false⟩] }.persist = [⟨5, true, false⟩] ∧
        { s.ss with persist := [⟨5, true, false⟩, ⟨42, false, false⟩] }.persist =
          ⟨5, true, false⟩ :: ⟨42, false, false⟩ :: []) ∧
      { s.ss with persist := [⟨5, true, true⟩] }.persist = ⟨5, true, true⟩ :: [] ∧
      (job (.odometer 77)).nv.write = some (.save, .odometer 77) ∧
      (driverEntry s = none ∧ driverEntry (driven []) = some ⟨7, .driver .loco false, 2⟩) ∧
      (job (.record ResumeRecord.blank)).nv.write = some (.save, .record ResumeRecord.blank) ∧
      ((job .mark).nv.write = some (.save, .mark) ∧ { s.ps with back := 4 }.back = 4 ∧ s.ps.back ≠ 4) ∧
      ∀ j, s.nv.write ≠ some (.save, j) := by
  refine ⟨rfl, by decide, by decide, by decide, by decide, by decide, by decide, fun j => ?_⟩
  simp [powered, part, withSettings, State.reset]

theorem witness_WritesLand :
    let s := part []
    let job : NvPurpose → NvJob → Option (NvPurpose × NvJob) := fun p j => (writing (p, j) []).nv.write
    (s.phase = .running ∧ s.ps.stage = .idle ∧ s.ps.pendingRestart = none ∧ s.ss.rewrite = none ∧ s.ss.persist = []) ∧
      (job .background (.slot 32 300) = some (.background, .slot 32 300) ∧
        { s.ss with persist := [⟨32, true, true⟩] }.persist = [⟨32, true, true⟩] ∧
        [⟨42, false, false⟩] ++ (if true then [⟨32, false, false⟩] else []) =
          (⟨42, false, false⟩ : PersistEntry) :: [⟨32, false, false⟩]) ∧
      (job .pending (.slot 32 300) = some (.pending, .slot 32 300) ∧ job .pending (.odometer 77) = some (.pending, .odometer 77) ∧
        { s.ps with pendingRestart := some .commanded }.pendingRestart = some .commanded) ∧
      (job .rewrite (.slot 3 0) = some (.rewrite, .slot 3 0) ∧ { s.ss with rewrite := some 3 }.rewrite = some 3 ∧ 3 < 5 ∧
        hasSlot 5 = true ∧ 5 < 512 ∧ ∀ k, k < 5 → 3 < k → hasSlot k = false) ∧
      (job .rewrite (.slot 351 0) = some (.rewrite, .slot 351 0) ∧ hasSlot 351 = true) ∧
      ({ s.ps with pendingRestart := some .commanded }.pendingRestart ≠ none ∧
        { s.ss with rewrite := some 1 }.rewrite = some 1 ∧
        { s.ss with persist := [⟨42, false, false⟩] }.persist = (⟨42, false, false⟩ : PersistEntry) :: []) ∧
      (s.ps.pendingRestart = none ∧ { s.ps with stage := .odometer }.stage = .odometer ∧
        { s.ps with stage := .persist }.stage = .persist ∧
        { s.ss with persist := [⟨32, true, false⟩] }.persist = [⟨32, true, false⟩] ∧ driverEntry s = none ∧
        driverEntry (driven []) = some ⟨7, .driver .loco false, 2⟩) ∧
      ∀ p j, s.nv.write ≠ some (p, j) := by
  refine ⟨by decide, by decide, by decide, by decide +kernel, by decide, by decide, by decide, fun p j => ?_⟩
  simp [part, withSettings, State.reset]

/-- Full lists: eight deferred entries, and sixteen places taken. -/
theorem witness_SetDecides :
    let s := driven []
    (s.phase = .running ∧ s.ss.working.wf = true ∧ Instr.wellFormed (.set (.throttle 7 3) 65535 65535) = true ∧
        s.service.link = .idle ∧ { s.service with link := .replying }.link ≠ .idle) ∧
      (atDriverScope (hear 7 s) 7 3 = true ∧ atDriverScope (hear 12 s) 12 3 = false) ∧
      (settingSpec 4 = none ∧ settingSpec 480 = some ⟨0, 65535, 0, .fixed⟩ ∧ settingSpec 5 = some ⟨0, 255, 40, .run⟩ ∧
        settingSpec 1 = some ⟨1, 9999, 3, .motion⟩ ∧ settingSpec 32 = some ⟨150, 300, 220, .service⟩) ∧
      (s.ss.writeStop = false ∧ s.ss.rewrite = none ∧ { s.ss with writeStop := true }.writeStop = true) ∧
      (0 < (moving 1 0 0 []).slu.r ∧ s.slu.r = 0) ∧
      ((∃ e ∈ [((1 : Nat), (5 : Nat))], e.1 = 1) ∧ ¬ (∃ e ∈ [((16 : Nat), (900 : Nat))], e.1 = 1)) ∧
      ((List.replicate 7 ((16 : Nat), (900 : Nat))).length < 8 ∧ 8 ≤ (List.replicate 8 ((16 : Nat), (900 : Nat))).length ∧
        15 < 16 ∧ 16 ≤ 16) := by
  decide +kernel

/-- For each owner's action, a new value of its index in a state on which it acts, and one on which it does not. -/
theorem witness_SetDecides_owners :
    let s := driven [(96, 0), (307, 1)]
    let lost := { s with ct := { s.ct with entries := [⟨7, .driver .consist true, 2⟩] } }
    (clampSetting 16 128 ≤ { s.mt with pa := 128 }.pa ∧ 127 < clampSetting 16 128 ∧ clampSetting 16 128 ≠ setting s 16) ∧
      (clampSetting 17 2 ≤ { s.mt with chuff := 2 }.chuff ∧ clampSetting 18 1 ≠ setting s 18) ∧
      (clampSetting 96 1 % 2 = 1 ∧ clampSetting 96 1 ≠ setting s 96 ∧ driverEntry (part []) = none ∧
        driverLost lost = true) ∧
      (clampSetting 19 1 = 1 ∧ setting s 19 ≠ 1 ∧ (smoking .ready 210 []).sc.smoke = .ready) ∧
      (let g := (lit 2 ⟨some 12, .fadingOut, 0, 0, 0, 9, 9, 9⟩ contest).fe.gens[2]
       g.driving = some 12 ∧ g.st = .fadingOut ∧ clampSetting 188 4 ≠ 5 ∧ clampSetting 188 5 = 5 ∧
         188 = 176 + 6 * (setting (part contest) (259 + 4 * 12) % 8)) ∧
      (let w := shining ⟨some 12, .running, 0, 40, 0, 120, 120, 120⟩ []
       w.fe.gens[2].driving = some 12 ∧ w.fe.active[12] = true ∧ setting w (258 + 4 * 12) = 3 ∧
         (∀ e : Fin 24, e < 12 → w.fe.active[e] = true → setting w (258 + 4 * e.val) ≠ 3) ∧
         clampSetting 307 1 % 8 ≠ setting w 307 % 8) ∧
      (driverEntry s = some ⟨7, .driver .loco false, 2⟩ ∧ clampSetting 1 5 ≠ setting s 1 ∧
        driverEntry lost = some ⟨7, .driver .consist true, 2⟩ ∧ clampSetting 2 5 ≠ setting s 2 ∧
        clampSetting 2 0 = 0 ∧ setting (driven [(2, 50)]) 2 ≠ 0) := by
  decide +kernel

/-- The actions on the start-up delay, the rated currents, Ts and Gh, and the telemetry interval. -/
theorem witness_SetDecides_counts :
    let s := driven [(10, 30)]
    (clampSetting 10 5 ≠ setting s 10 ∧ clampSetting 10 5 ≤ 5 ∧ 4 < clampSetting 10 5 ∧
        { s.slu with holdOff := some 5 }.holdOff = some 5) ∧
      (clampSetting 24 50 ≠ setting s 24 ∧ clampSetting 31 50 ≠ setting s 31) ∧
      (clampSetting 32 200 ≠ setting s 32 ∧ clampSetting 34 20 ≠ setting s 34 ∧
        (smoking .preheat 180 []).sc.smoke = .preheat ∧ (180 : Int) < setting s 32 ∧ (smoking .preheat 180 []).sc.temp = some 180) ∧
      (clampSetting 53 30 ≠ setting s 53 ∧ clampSetting 53 0 = 0 ∧ setting s 53 ≠ 0 ∧ s.radio.telemetry = none ∧
        (driverEntry s).isSome = true) := by
  decide +kernel

/-- The activity that the map's last evaluation found stands, while a profile of an active entry changes. -/
theorem witness_SetDecides_current : MapCurrent (shining ⟨some 12, .running, 0, 40, 0, 120, 120, 120⟩ []) :=
  ⟨by decide +kernel, by decide +kernel, by decide +kernel, by decide +kernel, by decide +kernel, by decide +kernel,
    by decide +kernel, by decide +kernel, by decide +kernel⟩

theorem witness_StoredValueInRange :
    settingSpec 1 = some ⟨1, 9999, 3, .motion⟩ ∧ (1 ≤ 9999 ∧ 9999 ≤ 9999) ∧ 0 < 1 ∧ 9999 < 10000 ∧
      (clampSetting 1 0 = 1 ∧ clampSetting 1 10000 = 9999 ∧ clampSetting 17 7 = 6 ∧
        clampSetting 17 0 = 2 ∧ clampSetting 17 1 = 2 ∧ clampSetting 17 2 = 2 ∧ clampSetting 17 200 = 8) := by
  decide

theorem witness_ClaimDecides :
    let s := driven []
    let lost := { s with ct := { s.ct with entries := [⟨7, .driver .loco true, 40⟩] } }
    (s.phase = .running ∧ 1 ≤ 12 ∧ 59 ≤ 59 ∧ 3 ≤ 65535) ∧
      driverEntry (hear 7 s) = some ⟨7, .driver .loco false, 0⟩ ∧
      driverEntry (hear 12 s) = some ⟨7, .driver .loco false, 2⟩ ∧ setting s 57 ≠ 1 ∧
      (driverEntry (hear 12 State.reset) = none ∧ driverEntry (hear 12 lost) = some ⟨7, .driver .loco true, 40⟩ ∧
        setting (driven [(57, 1)]) 57 = 1) ∧
      ∀ n : Fin 32, s.ct.functions[n] = true → isMomentary s n.val = false := by
  decide +kernel

theorem witness_ReleaseActs :
    let s := driven [(56, 1)]
    s.phase = .running ∧ (∀ e ∈ driverEntry (hear 12 s), e.id ≠ 12) ∧
      driverEntry (hear 7 s) = some ⟨7, .driver .loco false, 0⟩ ∧ EntriesOk s.ct.entries ∧ setting s 56 = 1 :=
  ⟨rfl, by decide +kernel, by decide +kernel, ⟨by decide, by decide, by decide⟩, by decide +kernel⟩

theorem witness_DriveActs :
    let s := driven []
    let c := driven [(2, 50), (3, 1)]
    (s.phase = .running ∧ 7 ≤ 59 ∧ 255 ≤ 255) ∧ (∀ e ∈ driverEntry (hear 12 s), e.id ≠ 12) ∧
      driverEntry (hear 7 s) = some ⟨7, .driver .loco false, 0⟩ ∧ (3 = setting c 1 ∧ setting c 2 ≠ 0) ∧
      (¬ (3 = setting s 1 ∧ setting s 2 ≠ 0) ∧ 3 = setting s 1 ∧ 4 ≠ setting s 1) ∧
      { s.ml with fault := true }.fault = true ∧ s.slu.r = 0 ∧ Direction.rev ≠ s.slu.travel ∧
      (driving 200 0 0 []).ml.bridge = .drive := by
  decide +kernel

theorem witness_FuncActs :
    let s := driven []
    (s.phase = .running ∧ 1 ≤ 7 ∧ 3 ≤ 65535) ∧
      (driverEntry (hear 7 s) = some ⟨7, .driver .loco false, 0⟩ ∧ 3 = setting s 1) ∧
      driverEntry (hear 12 s) = some ⟨7, .driver .loco false, 2⟩ := by
  decide +kernel

/-- Outputs that are DARK, RUNNING under their winner, displaced, and FADING_OUT under an entry that is inactive, that wins,
and that is active for another output; a sound entry turned on leaves the rest of the map as it was. -/
theorem witness_FuncActs_map :
    let wins : State → Fin 24 → Bool := fun s e =>
      (List.finRange 24).find? (fun d => entryActive s d && setting s (258 + 4 * d.val) == 3) == some e
    let s := shining ⟨some 12, .running, 0, 40, 0, 120, 120, 120⟩ []
    (s.fe.gens[0].driving = none ∧ s.fe.gens[0].st = .dark) ∧
      (wins s 12 = true ∧ s.fe.gens[2].driving = some 12 ∧ s.fe.gens[2].st = .running) ∧
      (entryActive s 10 = false ∧ setting s (176 + 6 * (setting s (259 + 4 * 10) % 8)) = 5 ∧ wins s 10 = false) ∧
      (let f := shining ⟨some 10, .fadingOut, 0, 40, 0, 120, 120, 120⟩ [(296, 32), (297, 0)]
       f.fe.gens[2].st = .fadingOut ∧ entryActive f 10 = true ∧ wins f 10 = true) ∧
      (let f := shining ⟨some 10, .fadingOut, 0, 40, 0, 120, 120, 120⟩ [(296, 32), (297, 0), (298, 4)]
       entryActive f 10 = true ∧ wins f 12 = true) ∧
      (let f := shining Gen.off [(256, 32), (258, 9), (259, 3)]
       let t := evaluateMap f
       t.fe.brake = f.fe.brake ∧ t.fe.smokeEnable = f.fe.smokeEnable ∧ t.fe.permitRequired = f.fe.permitRequired ∧
         t.fe.permitGranted = f.fe.permitGranted ∧ entryActive f 0 = true ∧ f.fe.active[0] = false) := by
  decide +kernel

theorem witness_StopCausesStop :
    let s := driven []
    (s.phase = .running ∧ s.ct.latch = StopLatch.empty ∧ s.slu.r = 0 ∧ s.ss.deferred = []) ∧
      (moving 300 0 300 []).slu.r ≠ 0 ∧ (driving 300 0 0 []).ml.bridge = .drive ∧
      { s.ct.latch with baseHalt := true }.baseHalt = true ∧ s.radio.spacing < 22 ∧
      22 ≤ { s.radio with spacing := 22 }.spacing ∧ s.slu.tEff = effectiveTarget s := by
  decide +kernel

/-- No entry of the map has a target, and its activity is known. -/
theorem witness_StopCausesStop_cues :
    let s := driven [(258, 0), (262, 0)]
    (∀ e : Fin 24, setting s (258 + 4 * e.val) = 0) ∧ s.se.mute = false ∧ MapCurrent s :=
  ⟨by decide +kernel, by decide, by decide +kernel, by decide +kernel, by decide +kernel, by decide +kernel,
    by decide +kernel, by decide +kernel, by decide +kernel, by decide +kernel, by decide +kernel⟩

/-- Fourteen places taken leave two for the consist settings, fifteen do not. -/
theorem witness_ConsistChanges :
    let s := driven []
    let c := driven [(2, 50), (3, 3)]
    (s.phase = .running ∧ s.ss.working.wf = true ∧ c.ss.working.wf = true) ∧
      (driverEntry (hear 7 s) = some ⟨7, .driver .loco false, 0⟩ ∧ 3 = setting s 1) ∧
      driverEntry (hear 12 s) = some ⟨7, .driver .loco false, 2⟩ ∧ (s.slu.r = 0 ∧ 0 < (moving 1 0 0 []).slu.r) ∧
      (3 = setting s 1 ∧ 9999 ≠ setting s 1 ∧ setting s 2 = 0 ∧ setting c 2 ≠ 0) ∧
      (s.ss.writeStop = false ∧ s.ss.rewrite = none ∧ s.ss.persist.length + s.ss.deferred.length < 15 ∧ 15 ≤ 15) ∧
      { s.ss with rewrite := some 3 }.rewrite ≠ none ∧
      (let d := { c with ct := { c.ct with entries := [⟨7, .driver .consist false, 2⟩] } }
       driverScope (hear 7 d) = some .consist ∧ 60 ≠ setting d 2 ∧ 50 = setting d 2 ∧ 0 ≠ setting d 2) := by
  decide +kernel

theorem witness_ServiceRequests :
    let s := driven []
    (s.phase = .running ∧ s.service.link = .idle ∧ s.ps.power ≠ .down ∧ s.ps.pendingRestart = none ∧
        s.nv.write = none ∧ s.ps.stage = .idle ∧ s.ss.persist = [] ∧ s.ss.writeStop = false ∧ s.ss.rewrite = none) ∧
      (powered .down []).ps.power = .down ∧ { s.ss with rewrite := some 1 }.rewrite ≠ none ∧
      (writing (.background, .slot 5 60) []).nv.write ≠ none ∧ { s.service with link := .replying }.link ≠ .idle := by
  decide

theorem witness_QueryAndGetAnswer :
    let s := driven []
    let four : List Entry :=
      [⟨30, .driver .loco false, 4⟩, ⟨7, .watcher, 43⟩, ⟨12, .watcher, 38⟩, ⟨41, .watcher, 2⟩]
    (s.phase = .running ∧ s.service.link = .idle ∧ { s.service with link := .replying }.link ≠ .idle) ∧
      s.ct.entries.find? (fun x => x.id == 12) = some ⟨12, .watcher, 5⟩ ∧
      ((∀ e ∈ s.ct.entries, e.id ≠ 55) ∧ s.ct.entries.length < 4) ∧
      (four = [⟨30, .driver .loco false, 4⟩] ++ ⟨7, .watcher, 43⟩ :: [⟨12, .watcher, 38⟩, ⟨41, .watcher, 2⟩] ∧
        (∀ e ∈ four, e.id ≠ 55) ∧ 4 ≤ four.length) := by
  decide

theorem witness_RepliesAreSent :
    let s := driven []
    let r := { s.radio with replies := replies, sending := some ⟨0x40, 63, 3, [7, 4]⟩, credits := 2 }
    (s.phase = .running ∧ s.radio.replies = [] ∧ 255 ≤ 255) ∧
      (0 < s.radio.credits + 1 ∧ s.radio.sending = none ∧ r.replies = ⟨7, .ack 4⟩ :: replies.drop 1) ∧
      (r.sending ≠ none ∧ 0 < r.credits ∧ s.radio.credits = 0) ∧
      (s.service.reply = none ∧ s.service.busyOwed = none ∧
        { s.service with reply := some ⟨0x40, 63, 3, [62, 9]⟩, busyOwed := some 0x20 }.busyOwed = some 0x20) := by
  decide

theorem witness_ReplyJoins :
    let s := driven []
    let full : List Reply := ⟨12, .status⟩ :: replies.take 7
    let answers : List Reply := List.replicate 8 ⟨7, .ack 3⟩
    (s.radio.sending = none ∧ 0 < { s.radio with credits := 1 }.credits ∧ s.radio.replies = [] ∧
        replies.take 7 = ⟨7, .ack 4⟩ :: (replies.take 7).tail ∧ (replies.take 7).length < 8) ∧
      s.radio.credits = 0 ∧ ((∃ p ∈ full, p.dest = 12 ∧ p.body = .status) ∧ ∀ p ∈ full, p.dest = 55 → p.body ≠ .status) ∧
      (s.radio.replies.length < 8 ∧ 8 ≤ full.length ∧ full = [] ++ ⟨12, .status⟩ :: replies.take 7) ∧
      (8 ≤ answers.length ∧ ∀ p ∈ answers, p.body ≠ .status) := by
  decide

end Sys2Proof.Tests
end

section
/-! SUPPORT. Which throttles stand in the Control Table, in which order of hearing and with which heard ages: the
operations that a step can bring about leave these as they are, whatever roles they change. -/

namespace Sys2Proof.Machine

/-- The throttles of the Control Table and their heard ages, in the order of hearing (R159, R160). -/
def heardAges (s : State) : List (Nat × Nat) := s.ct.entries.map fun e => (e.id, e.age)

/-- The same throttles, in the same order and with the same heard ages. -/
def HeardKept (s t : State) : Prop := heardAges t = heardAges s

theorem HeardKept.refl (s : State) : HeardKept s s := rfl

theorem HeardKept.trans {s t u : State} (h : HeardKept s t) (k : HeardKept t u) : HeardKept s u := Eq.trans k h

theorem HeardKept.of_entries {s t : State} (h : t.ct.entries = s.ct.entries) : HeardKept s t := by
  unfold HeardKept heardAges; rw [h]

theorem HeardKept.of_ct {s t : State} (h : t.ct = s.ct) : HeardKept s t := .of_entries (by rw [h])

theorem HeardKept.ite {c : Prop} [Decidable c] {s x y : State} (hx : HeardKept s x) (hy : HeardKept s y) :
    HeardKept s (if c then x else y) := by
  split
  · exact hx
  · exact hy

theorem HeardKept.foldl {α : Type} {f : State → α → State} (h : ∀ s a, HeardKept s (f s a)) :
    ∀ (l : List α) (s : State), HeardKept s (l.foldl f s)
  | [], s => .refl s
  | a :: l, s => (h s a).trans (HeardKept.foldl h l (f s a))

theorem HeardKept.anyOrder {fs : List (State → State)} (h : ∀ f ∈ fs, ∀ s, HeardKept s (f s)) (s : State) :
    HeardKept s (anyOrder fs s) :=
  anyOrder_keeps (P := HeardKept s) (.refl s) (fun f hf _ k => k.trans (h f hf _)) (fun _ _ k => k)

/-- A change of the entries that leaves each its throttle and its age, so of roles alone. -/
theorem HeardKept.mapRoles {g : Entry → Entry} (h : ∀ e, (g e).id = e.id ∧ (g e).age = e.age) (s : State) :
    HeardKept s (s.modCt fun c => { c with entries := c.entries.map g }) := by
  simp [HeardKept, heardAges, Function.comp_def, h]

theorem SoundLane.heard {s t : State} (l : SoundLane s t) : HeardKept s t := .of_ct l.ct

theorem RadioLane.heard {s t : State} (l : RadioLane s t) : HeardKept s t := .of_ct l.ct

theorem QueueLane.heard {s t : State} (l : QueueLane s t) : HeardKept s t := .of_ct l.ct

theorem EffectLane.heard {s t : State} (l : EffectLane s t) : HeardKept s t := .of_ct l.ct

/-! ### Functions, roles and the target -/

theorem setFunction_heard (n : Fin 32) (on : Bool) (s : State) : HeardKept s (setFunction n on s) := by
  unfold setFunction; split
  · exact .refl s
  · refine .trans ?_ (evaluateMap_lane _).heard
    exact .of_entries rfl

theorem momentaryOff_heard (s : State) : HeardKept s (momentaryOff s) :=
  .foldl (fun _ _ => .ite (setFunction_heard ..) (.refl _)) _ _

theorem demoteDriver_heard (s : State) : HeardKept s (demoteDriver s) :=
  .mapRoles (fun e => by split <;> exact ⟨rfl, rfl⟩) s

theorem markLost_heard (s : State) : HeardKept s (markLost s) :=
  .mapRoles (fun e => by split <;> exact ⟨rfl, rfl⟩) s

theorem setTarget_heard (n : Nat) (s : State) : HeardKept s (setTarget n s) := .of_entries rfl

theorem dropDriver_heard (s : State) : HeardKept s (dropDriver s) := by
  unfold dropDriver; split
  · exact (((demoteDriver_heard s).trans (tellDisplaced_lane ..).heard).trans (momentaryOff_heard _)).trans
      (telemetryStop_lane _).heard
  · exact .refl s

theorem addressChange_heard (oldLoco oldConsist : Nat) (oldRole : ConsistRole) (s : State) :
    HeardKept s (addressChange oldLoco oldConsist oldRole s) := by
  have drop : HeardKept s (dropMoved oldLoco oldConsist s) := .ite (dropDriver_heard s) (.refl s)
  have clear (t : State) : HeardKept t (clearTarget oldConsist t) := .ite (setTarget_heard 0 t) (.refl t)
  have role (t : State) : HeardKept t (roleReport oldRole t) := .ite (.refl t) (evaluateMap_lane t).heard
  exact (drop.trans (clear _)).trans (role _)

/-! ### The application of settings -/

theorem kindChange_heard (n : Nat) (s : State) : HeardKept s (kindChange n s) := by
  unfold kindChange; split
  · exact .ite (setFunction_heard ..) (.refl s)
  · exact .refl s

/-- No owner of a setting touches the throttles heard: a change of addresses demotes a Driver at most (R172, R179). -/
theorem ownerActs_heard (i oldLoco oldConsist : Nat) (oldRole : ConsistRole) (changed : Option (Fin 24)) (s : State) :
    HeardKept s (ownerActs i oldLoco oldConsist oldRole changed s) :=
  .ite (addressChange_heard ..) <| .ite (recompute_lane s).heard <| .ite (holdOffExpiry_lane s).heard <|
    .ite (.ite (.of_entries rfl) (.refl s)) <| .ite (.ite (.of_entries rfl) (.refl s)) <| .ite (.of_entries rfl) <|
    .ite (smokeTypeChange_lane s).toEffectLane.heard <| .ite (refreshLights_lane s).toEffectLane.heard <|
    .ite (formHeater_lane s).toEffectLane.heard <| .ite (formFan_lane s).toEffectLane.heard <|
    .ite (telemetryChange_lane s).heard <| .ite (kindChange_heard ..) <|
    .ite (waveformChange_lane _ s).toEffectLane.heard <| .ite (evaluateAfter_lane changed s).heard (.refl s)

theorem changeSetting_heard (i v : Nat) (s : State) : HeardKept s (changeSetting i v s) := by
  have store (t : State) : HeardKept t (storeSetting i v t) := .of_entries rfl
  unfold changeSetting; split
  · exact .refl s
  · exact ((beforeChange_lane i s).heard.trans (store _)).trans (ownerActs_heard ..)

theorem applySetting_heard (i v : Nat) (s : State) : HeardKept s (applySetting i v s) :=
  (changeSetting_heard i v s).trans (persist_lane i _).heard

theorem applyDeferred_heard (s : State) : HeardKept s (applyDeferred s) :=
  .trans (.of_entries rfl) (.foldl (fun t (e : Nat × Nat) => applySetting_heard e.1 e.2 t) s.ss.deferred _)

/-! ### The ramp and the Stop latch -/

theorem turnIfDue_heard (s : State) : HeardKept s (turnIfDue s) := by
  have motor (t : State) : HeardKept t (motorTurn t) := .ite (.of_entries rfl) (.refl t)
  have turn : HeardKept s (turnTravel s) := by
    refine .trans (.trans (.trans ?_ (motor _)) (raiseCue_lane ..).heard) (recompute_lane _).heard
    exact .of_entries rfl
  exact .ite turn (.refl s)

/-- The notices of a crossing or a turn, and with R at 0 the Deferred List, leave the throttles heard (R15, R19). -/
theorem motionNotices_heard (crossed : Bool) (s : State) : HeardKept s (motionNotices crossed s) := by
  refine (turnIfDue_heard s).trans (.anyOrder (fun f hf t => ?_) _)
  simp only [List.mem_append, mem_noticeIf] at hf
  obtain ⟨_, rfl⟩ | ⟨_, rfl⟩ := hf
  · exact (evaluateMap_lane t).heard
  · exact applyDeferred_heard t

theorem setRamp_heard (r f : Nat) (s : State) : HeardKept s (setRamp r f s) := by
  have cued (k : CueKind) (t : State) : HeardKept t (motionNotices true (recompute (raiseCue k none t))) :=
    ((raiseCue_lane k none t).heard.trans (recompute_lane _).heard).trans (motionNotices_heard ..)
  exact .trans (t := putRamp r f s) (.of_entries rfl) (.ite (cued _ _) (.ite (cued _ _) (motionNotices_heard ..)))

theorem motorFirstCause_heard (s : State) : HeardKept s (motorFirstCause s) := by
  unfold motorFirstCause; split <;> exact .of_entries rfl

theorem firstCause_heard (s : State) : HeardKept s (firstCause s) := by
  have stop : HeardKept s (emergencyStop (setTarget 0 s)) :=
    ((setTarget_heard 0 s).trans (setRamp_heard 0 0 _)).trans (recompute_lane _).heard
  exact (stop.trans (motorFirstCause_heard _)).trans (raiseCue_lane ..).heard

theorem addCause_heard (g : StopLatch → StopLatch) (s : State) : HeardKept s (addCause g s) :=
  .ite (.of_entries rfl) (.trans (t := modLatch g s) (.of_entries rfl) (firstCause_heard _))

/-! ### What expires at a step -/

/-- A signal-loss expiry changes the Driver's role, never the throttles heard (R168). -/
theorem signalLossExpiry_heard (s : State) : HeardKept s (signalLossExpiry s) := by
  have action (t : State) : HeardKept t (lossAction t) :=
    .ite (setTarget_heard 0 t) (.ite (.refl t) (addCause_heard _ t))
  exact .ite (((markLost_heard s).trans (momentaryOff_heard _)).trans (action _)) (.refl s)

/-- Whatever expires at a step, in whatever order, leaves the throttles heard and their ages. -/
theorem stepExpiries_heard (s : State) : HeardKept s (stepExpiries s) := by
  refine .anyOrder (fun f hf t => ?_) s
  simp only [List.mem_append, mem_noticeIf] at hf
  obtain (⟨_, rfl⟩ | ⟨_, rfl⟩) | ⟨_, rfl⟩ := hf
  · exact signalLossExpiry_heard t
  · exact (holdOffExpiry_lane t).heard
  · exact (telemetryExpiry_lane t).heard

end Sys2Proof.Machine
end

section
/-! PROOFS. The step timer (R1): the ages that rise at every step, and the step at which nothing expires. -/

namespace Sys2Proof.Machine

/-! ### When something expires -/

theorem timerAt_iff {t : Option Nat} {limit : Nat} : timerAt t limit = true ↔ ∃ n, t = some n ∧ limit ≤ n := by
  cases t <;> simp [timerAt]

/-- A timer that is more than a step short of its set time does not reach it at this step (R1). -/
theorem timerAt_tick_short {t : Option Nat} {limit : Nat} (h : ∀ n, t = some n → n + 1 < limit) :
    timerAt (tickTimer t) limit = false := by
  rw [Bool.eq_false_iff, Ne, timerAt_iff]
  rintro ⟨m, hm, reached⟩
  obtain ⟨n, hn, rfl⟩ := Option.map_eq_some_iff.mp hm
  have := h n hn
  omega

theorem signalLossDue_iff {s : State} :
    signalLossDue s = true ↔
      ∃ e, driverEntry s = some e ∧ 0 < setting s 54 ∧ driverLost s = false ∧ setting s 54 ≤ e.age := by
  unfold signalLossDue
  cases driverEntry s <;> simp

theorem stepExpiries_none {s : State} (loss : signalLossDue s = false) (holdOff : holdOffDue s = false)
    (telemetry : telemetryDue s = false) : stepExpiries s = s := by
  simp [stepExpiries, loss, holdOff, telemetry]

/-! ### The commands of a running part -/

theorem exec_step {s : State} (h : s.phase = .running) : exec .step s = .next (stepTimer s) :=
  congrArg Host.Outcome.next (whileRunning_running h)

theorem exec_watcherAgeOut {s : State} (h : s.phase = .running) : exec .watcherAgeOut s = .next (watcherAgeOut s) :=
  congrArg Host.Outcome.next (whileRunning_running h)

/-! ### The statements -/

/-- Settles O29: the ages rise first, and no expiry of the step touches the throttles heard. -/
theorem stepRaisesAges : Obligations.StepRaisesAges := by
  intro s run
  have kept : HeardKept (riseAges s) (stepTimer s) :=
    .trans (t := countStep (riseAges s)) (.of_entries rfl) (stepExpiries_heard _)
  exact ⟨⟨stepTimer s, exec_step run, kept⟩, exec_watcherAgeOut run⟩

/-- Settles O30: the step's counts make the stated state, in which none of the three expiries is due. -/
theorem stepCounts : Obligations.StepCounts := by
  intro s run t young holdOff telemetry
  have counted : countStep (riseAges s) = t := rfl
  have loss : signalLossDue t = false := by
    rw [Bool.eq_false_iff, Ne, signalLossDue_iff]
    rintro ⟨e, driver, on, present, old⟩
    exact absurd (young e driver on present) (Nat.not_lt.mpr old)
  rw [exec_step run, stepTimer, counted]
  exact congrArg _ (stepExpiries_none loss (timerAt_tick_short holdOff) (timerAt_tick_short telemetry))

end Sys2Proof.Machine
end
